-- ==== Sys2Proof/Word.lean ====
section
/-! DEFINITION. The words GSIO moves, by the widths of spec/00_scope.md rules R5 and R6. Every value is unsigned and bit 0
is the least significant bit (rule R7). GSIO has no addressable memory (spec/20_memory.md rule R58), so there is no address type. -/

namespace Sys2Proof

/-- `CMD_WIDTH` = 16: one command word (rule R80). -/
abbrev CmdWord := BitVec 16

/-- A row bitmask, a byte shifted in or out, `RESULT` and the frame counter: 8 bits. -/
abbrev Byte := BitVec 8

/-- `MS_WIDTH` = 32: the millisecond clock, `last_read`, `press_ts`, `heldMillis`; arithmetic wraps modulo 2^32 (rule R6). -/
abbrev Millis := BitVec 32

/-- `RAW_WIDTH` = 16: one raw analog sample (rule R13). -/
abbrev Raw := BitVec 16

/-- `EV_WIDTH` = 40: one event word (spec/60_exceptions.md rule R175). -/
abbrev EvWord := BitVec 40

/-- Rows 0 to 4; row 0 is the bottom row (rule R52). -/
abbrev Row := Fin 5

/-- Columns 0 to 7; column 0 is the left-most (rule R52). -/
abbrev Col := Fin 8

/-- Potentiometer channels 0 to 5 (rule R52). -/
abbrev Chan := Fin 6

/-- Listener slots: 0 button-down, 1 button-up, 2 pot-change (rule R33). -/
abbrev Slot := Fin 3

end Sys2Proof
end

