-- ==== Sys2Proof/Syntax.lean ====
section
/-! DEFINITION. The command set `GSIO-1` of spec/30_encoding.md: one constructor for each row of spec/opcode_table.json, each operand
at the width of its field (rule R83), so that every encodable operand value, in range or not, is a term. -/

namespace Sys2Proof

/-- The `order` field of SHOUT (rule R83): 0 is least significant bit first, 1 is most significant bit first. -/
inductive BitOrder where
  | lsbFirst
  | msbFirst
deriving DecidableEq, Repr

/-- The thirteen commands (rule R84). -/
inductive Instr where
  /-- the un-notified first button read (rule R118) -/
  | init
  /-- `read()`: buttons, then pots (rule R161) -/
  | read
  /-- `write()`: push the LED rows, advance the frame counter (rule R133) -/
  | write
  /-- `readButtons()` (rule R117) -/
  | rdbtn
  /-- `readPots()` (rule R150) -/
  | rdpot
  /-- `writeLeds()` (rule R132) -/
  | wrled
  /-- `shiftIn` (rule R101) -/
  | shin
  /-- `shiftOut` (rule R104) -/
  | shout (order : BitOrder) (value : Byte)
  /-- `setLed(row, col, val)` (rule R135) -/
  | setled (row : BitVec 3) (col : BitVec 3) (val : Bool)
  /-- `setLedRow(row, val)` (rule R136) -/
  | setrow (row : BitVec 3) (value : Byte)
  /-- `getButton(row, col)` (rule R119) -/
  | getbtn (row : BitVec 3) (col : BitVec 3)
  /-- listener registration (rule R163) -/
  | listen (slot : BitVec 2) (en : Bool)
  /-- the read-only constants (rule R164) -/
  | getcfg (k : BitVec 2)
deriving DecidableEq, Repr

/-- The mnemonic of spec/opcode_table.json. -/
def Instr.mnemonic : Instr → String
  | .init => "INIT"
  | .read => "READ"
  | .write => "WRITE"
  | .rdbtn => "RDBTN"
  | .rdpot => "RDPOT"
  | .wrled => "WRLED"
  | .shin => "SHIN"
  | .shout _ _ => "SHOUT"
  | .setled _ _ _ => "SETLED"
  | .setrow _ _ => "SETROW"
  | .getbtn _ _ => "GETBTN"
  | .listen _ _ => "LISTEN"
  | .getcfg _ => "GETCFG"

end Sys2Proof
end

