-- ==== Sys2Proof/WellFormed.lean ====
section
/-! DEFINITION. Which commands have their operands in the legal range (spec/30_encoding.md rule R83, spec/20_memory.md rule R52).
A command that is not well formed still decodes and has a meaning: it raises `Fault(RANGE)` (spec/60_exceptions.md rule R172). -/

namespace Sys2Proof

/-- A row field is legal when it names one of the five rows: 5, 6 and 7 fault (rule R172). -/
def rowInRange (row : BitVec 3) : Bool := decide (row.toNat < 5)

/-- A listener slot field is legal when it is 0, 1 or 2 (rule R172). -/
def slotInRange (slot : BitVec 2) : Bool := decide (slot.toNat < 3)

/-- A constant index is legal when it is 0, 1 or 2 (rule R172). -/
def constInRange (k : BitVec 2) : Bool := decide (k.toNat < 3)

/-- Every operand of the command is in its legal range. A column, a byte, an order, a level and an enable are always legal. -/
def Instr.wellFormed : Instr → Bool
  | .init => true
  | .read => true
  | .write => true
  | .rdbtn => true
  | .rdpot => true
  | .wrled => true
  | .shin => true
  | .shout _ _ => true
  | .setled row _ _ => rowInRange row
  | .setrow row _ => rowInRange row
  | .getbtn row _ => rowInRange row
  | .listen slot _ => slotInRange slot
  | .getcfg k => constInRange k

end Sys2Proof
end

