-- ==== Sys2Proof/Decode.lean ====
section
/-! DEFINITION. The decoder of spec/30_encoding.md (rules R82 to R89), total on the 65536 command words and rejecting by name, then
the encoder, and the opcode map of rule R84 as a table. A command word is moved whole on a parallel port (rule R60): it has no byte
order, and the decoder reads a 16-bit word. -/

namespace Sys2Proof

/-- Why a word is no command; either makes GSIO raise `Fault(ILLEGAL)` (rules R85, R86). -/
inductive DecodeError where
  /-- opcode `0x0`, `0xE` or `0xF` (rule R86) -/
  | unassignedOpcode
  /-- an assigned opcode with a reserved bit set (rule R85) -/
  | reservedBitSet
deriving DecidableEq, Repr

/-- `CMD[15:12]`, the opcode (rule R80). -/
def opcodeOf (w : CmdWord) : BitVec 4 := w.extractLsb' 12 4

/-- The `row` field, bits 10:8 (rule R83). -/
def rowField (w : CmdWord) : BitVec 3 := w.extractLsb' 8 3

/-- The `col` field, bits 6:4 (rule R83). -/
def colField (w : CmdWord) : BitVec 3 := w.extractLsb' 4 3

/-- The `value` field, bits 7:0 (rule R83). -/
def valueField (w : CmdWord) : Byte := w.extractLsb' 0 8

/-- The `slot` field and the `k` field, bits 9:8 (rule R83). -/
def slotField (w : CmdWord) : BitVec 2 := w.extractLsb' 8 2

/-- The `val` field and the `en` field, bit 0 (rule R83). -/
def bit0Field (w : CmdWord) : Bool := w.getLsbD 0

/-- The `order` field, bit 8 (rule R83). -/
def orderField (w : CmdWord) : BitOrder := if w.getLsbD 8 then .msbFirst else .lsbFirst

/-- The command `i`, provided every reserved bit of its format is zero (rule R85). -/
def ifReservedZero (reservedZero : Bool) (i : Instr) : Except DecodeError Instr :=
  if reservedZero then .ok i else .error .reservedBitSet

/-- The decode procedure of rule R89 after its first line (a faulted GSIO refuses before it decodes: `issue` in Machine/Ops.lean)
and without the range check, which is the meaning's (`rangeChecked` there): the word of a row 5 reads as that row's command. -/
def decode (w : CmdWord) : Except DecodeError Instr :=
  match (opcodeOf w).toNat with
  | 0x1 => ifReservedZero (w.extractLsb' 0 12 == 0) .init
  | 0x2 => ifReservedZero (w.extractLsb' 0 12 == 0) .read
  | 0x3 => ifReservedZero (w.extractLsb' 0 12 == 0) .write
  | 0x4 => ifReservedZero (w.extractLsb' 0 12 == 0) .rdbtn
  | 0x5 => ifReservedZero (w.extractLsb' 0 12 == 0) .rdpot
  | 0x6 => ifReservedZero (w.extractLsb' 0 12 == 0) .wrled
  | 0x7 => ifReservedZero (w.extractLsb' 0 12 == 0) .shin
  | 0x8 => ifReservedZero (w.extractLsb' 9 3 == 0) (.shout (orderField w) (valueField w))
  | 0x9 => ifReservedZero (!w.getLsbD 11 && !w.getLsbD 7 && w.extractLsb' 1 3 == 0) (.setled (rowField w) (colField w) (bit0Field w))
  | 0xA => ifReservedZero (!w.getLsbD 11) (.setrow (rowField w) (valueField w))
  | 0xB => ifReservedZero (!w.getLsbD 11 && !w.getLsbD 7 && w.extractLsb' 0 4 == 0) (.getbtn (rowField w) (colField w))
  | 0xC => ifReservedZero (w.extractLsb' 10 2 == 0 && w.extractLsb' 1 7 == 0) (.listen (slotField w) (bit0Field w))
  | 0xD => ifReservedZero (w.extractLsb' 10 2 == 0 && w.extractLsb' 0 8 == 0) (.getcfg (slotField w))
  | _ => .error .unassignedOpcode

/-- The one bit that carries an `order` (rule R83). -/
def orderBit : BitOrder → Bool
  | .lsbFirst => false
  | .msbFirst => true

/-- The encoder: the formats N, O, L, W, B, S and K of rule R82, written from bit 15 down, reserved bits zero. -/
def encode : Instr → CmdWord
  | .init => 0x1#4 ++ 0#12
  | .read => 0x2#4 ++ 0#12
  | .write => 0x3#4 ++ 0#12
  | .rdbtn => 0x4#4 ++ 0#12
  | .rdpot => 0x5#4 ++ 0#12
  | .wrled => 0x6#4 ++ 0#12
  | .shin => 0x7#4 ++ 0#12
  | .shout order value => 0x8#4 ++ 0#3 ++ BitVec.ofBool (orderBit order) ++ value
  | .setled row col val => 0x9#4 ++ 0#1 ++ row ++ 0#1 ++ col ++ 0#3 ++ BitVec.ofBool val
  | .setrow row value => 0xA#4 ++ 0#1 ++ row ++ value
  | .getbtn row col => 0xB#4 ++ 0#1 ++ row ++ 0#1 ++ col ++ 0#4
  | .listen slot en => 0xC#4 ++ 0#2 ++ slot ++ 0#7 ++ BitVec.ofBool en
  | .getcfg k => 0xD#4 ++ 0#2 ++ k ++ 0#8

/-- One row of the opcode map: the word `w` is the command when `w &&& mask = pattern` (rule R84). -/
structure OpcodeRow where
  mnemonic : String
  pattern : CmdWord
  mask : CmdWord
deriving DecidableEq, Repr

/-- The opcode map of rule R84, row by row. -/
def opcodeMap : List OpcodeRow :=
  [ ⟨"INIT", 0x1000, 0xFFFF⟩, ⟨"READ", 0x2000, 0xFFFF⟩, ⟨"WRITE", 0x3000, 0xFFFF⟩, ⟨"RDBTN", 0x4000, 0xFFFF⟩,
    ⟨"RDPOT", 0x5000, 0xFFFF⟩, ⟨"WRLED", 0x6000, 0xFFFF⟩, ⟨"SHIN", 0x7000, 0xFFFF⟩, ⟨"SHOUT", 0x8000, 0xFE00⟩,
    ⟨"SETLED", 0x9000, 0xF88E⟩, ⟨"SETROW", 0xA000, 0xF800⟩, ⟨"GETBTN", 0xB000, 0xF88F⟩, ⟨"LISTEN", 0xC000, 0xFCFE⟩,
    ⟨"GETCFG", 0xD000, 0xFCFF⟩ ]

/-- The word `w` matches the row (rule R84). -/
def OpcodeRow.accepts (row : OpcodeRow) (w : CmdWord) : Bool := w &&& row.mask == row.pattern

/-- The three kinds of command word that partition all 65536 (rule R87). -/
inductive WordClass where
  | legal
  | rangeFault
  | illegal
deriving DecidableEq, Repr

/-- The kind of a command word (rule R87). -/
def classify (w : CmdWord) : WordClass :=
  match decode w with
  | .ok i => if i.wellFormed then .legal else .rangeFault
  | .error _ => .illegal

/-- The command word whose low `nbits` bits are those of `w`; the bits above are zero. GSIO's commands are one 16-bit word (rule R80). -/
def wordOfTable (nbits w : Nat) : CmdWord := BitVec.ofNat 16 (w % 2 ^ nbits)

/-- What the decoder reads from a word given as the opcode table numbers its bits. -/
def decodeTableWord (nbits w : Nat) : Option Instr :=
  match decode (wordOfTable nbits w) with
  | .ok i => some i
  | .error _ => none

end Sys2Proof
end

