-- ==== Sys2Proof/Config.lean ====
section
/-! DEFINITION. What the spec leaves to the platform: the one open parameter of the hardware and the answers of the world outside
GSIO where no script gives them. Each is a constant WITHOUT a body: nothing in Lean can evaluate it, so a claim holds whatever it is.
The numeric constants the spec fixes (rule R5) stand in Machine/Operands.lean. -/

namespace Sys2Proof.Config

/-- `BTN_LATCH_SHIFT_LEVEL`, left OPEN by the spec (rule R6, decision D6, N14): the level that asserts the button latch.
`State.reset` takes it from here; a run on a platform whose level is known starts from `State.resetAt`. Log entry 1. -/
opaque btnLatchShiftLevel : Bool

/-- The answer of the `n`-th `PinRead(BTN_DATA)` of the platform where no script gives one (rule R11: unconstrained). Log entry 2. -/
opaque freeBtnData : Nat → Bool

/-- The answer of the `n`-th `AnalogSample()` where no script gives one (rule R13: any value 0..65535). Log entry 2. -/
opaque freeAin : Nat → Raw

/-- The answer of the `n`-th `NowMs()` where no script gives one (rule R14: any 32-bit value). Log entry 2. -/
opaque freeNowMs : Nat → Millis

/-- What the button cascade's captured bits are before its first capture: the spec gives them no start (rule R70). Log entry 13. -/
opaque freeCapture : Vector Bool 40

/-- How far the button cascade has been shifted before its first capture (rule R70: 0..40). Log entry 13. -/
opaque freeCaptureHead : Fin 41

/-- What the LED cascade's 40 bits are before the first WRITE (spec/93_implementation_defined.md entry U19: any value). Log entry 13. -/
opaque freeLedBits : Vector Bool 40

/-- What the LEDs show before the first WRITE (entry U19: any value). Log entry 13. -/
opaque freeLedOutputs : Vector (Vector Bool 8) 5

end Sys2Proof.Config
end

