-- ==== Sys2Proof/Machine/State.lean ====
section
/-! DEFINITION. The state of GSIO: every element of the tuple `S` of spec/10_state.md rule R20, and beside it the model's own fields,
which stand for what is outside GSIO (rule R40): the strap of the open parameter, the answers the world will give, the inputs the host
will give, and the history the world has seen. All of it is plain data. -/

namespace Sys2Proof.Machine

/-- The output pins (spec/20_memory.md rule R50). -/
inductive Pin where
  | btnClk
  | btnLatch
  | ledData
  | ledClk
  | ledLatch
  | sel (j : Fin 3)
deriving DecidableEq, Repr

/-- The input pins a `PinRead` can name: only `BTN_DATA` is ever sampled (rules R11, R50). -/
inductive InPin where
  | btnData
deriving DecidableEq, Repr

/-- The pin output latches: the level driven on each output pin (spec/10_state.md rule R36). -/
@[ext]
structure Pins where
  btnClk : Bool
  btnLatch : Bool
  ledData : Bool
  ledClk : Bool
  ledLatch : Bool
  sel : Vector Bool 3
deriving DecidableEq, Repr

/-- What an event tells the consumer (spec/60_exceptions.md rule R175). -/
inductive Event where
  /-- button-down(row, col) -/
  | down (r : Row) (c : Col)
  /-- button-up(row, col, heldMillis) -/
  | up (r : Row) (c : Col) (held : Millis)
  /-- pot-change(channel, value) -/
  | pot (ch : Chan) (v : BitVec 10)
deriving DecidableEq, Repr

/-- One entry of the history `H` (spec/00_scope.md rules R9 to R16). -/
inductive HistoryEvent where
  /-- `W(p,b)`: an output pin driven (rule R10) -/
  | w (p : Pin) (b : Bool)
  /-- `R(p)=b`: an input pin sampled (rule R11) -/
  | r (p : InPin) (b : Bool)
  /-- `D(n)`: a wait of at least n microseconds (rule R12) -/
  | d (us : Nat)
  /-- `A()=raw`: the analog input sampled (rule R13) -/
  | a (raw : Raw)
  /-- `T()=t`: the clock sampled (rule R14) -/
  | t (ms : Millis)
  /-- `E(ev)`: an event word the consumer took (rule R15) -/
  | e (word : EvWord)
  /-- `RES(v)`: a value returned (rule R16) -/
  | res (v : Byte)
deriving DecidableEq, Repr

/-- The two fault codes (spec/60_exceptions.md rule R171). -/
inductive FaultCode where
  | illegal
  | range
deriving DecidableEq, Repr

/-- The answers one service of the platform will give: those a script fixes, then free values; `drawn` counts the answers given. -/
@[ext]
structure Feed (α : Type) where
  script : List α
  drawn : Nat
deriving DecidableEq, Repr

/-- The oracle (rules R11, R13, R14): the answers to come on `BTN_DATA`, `AIN` and `NOW_MS`. -/
@[ext]
structure Oracle where
  btnData : Feed Bool
  ain : Feed Raw
  nowMs : Feed Millis
deriving DecidableEq, Repr

/-- What the host and the consumer can do to GSIO at its next step (spec/70_reset_and_hazards.md rule R221). -/
inductive HostInput where
  /-- the host issues a command word and the consumer takes every event offered (rules R81, R177) -/
  | cmd (w : CmdWord)
  /-- the host issues a command word and asserts `RESET` when the command has appended `n` events (rules R200, R221) -/
  | cmdThenReset (w : CmdWord) (n : Nat)
  /-- the host issues a command word and the consumer takes `k` events of it and never another (rule R177, entry U10) -/
  | cmdUntaken (w : CmdWord) (k : Nat)
  /-- the host asserts `RESET` while GSIO is idle (rule R200) -/
  | reset
deriving DecidableEq, Repr

/-- The machine. The first eleven fields are the tuple `S` of rule R20; the last four are the model's own. -/
@[ext]
structure State where
  /-- `btn_cur[r]`: bit c is the current boolean of cell (r, c) (rule R21) -/
  btnCur : Vector Byte 5
  /-- `btn_prev[r]` (rule R22) -/
  btnPrev : Vector Byte 5
  /-- `press_ts[r][c]` (rule R23) -/
  pressTs : Vector (Vector Millis 8) 5
  /-- `last_read` (rule R30) -/
  lastRead : Millis
  /-- `led[r]`: bit 7-c is LED (r, c) (rule R24) -/
  led : Vector Byte 5
  /-- `frame` (rule R31) -/
  frame : Byte
  /-- `pot_q[ch]` (rule R25) -/
  potQ : Vector (BitVec 7) 6
  /-- `lsn`: bit 0 `LSN_DOWN`, bit 1 `LSN_UP`, bit 2 `LSN_POT` (rule R33) -/
  lsn : BitVec 3
  /-- `fault`: bit 0 `F_ILLEGAL`, bit 1 `F_RANGE` (rule R34) -/
  fault : BitVec 2
  /-- `RESULT` (rule R26) -/
  result : Byte
  /-- the pin output latches (rule R36) -/
  pin : Pins
  /-- MODEL'S OWN: the value of `BTN_LATCH_SHIFT_LEVEL`; no step writes it (rule R6, log entry 1) -/
  shiftLevel : Bool
  /-- MODEL'S OWN: the oracle's answers to come (rule R40, log entry 2) -/
  oracle : Oracle
  /-- MODEL'S OWN: the inputs the host gives at the next steps, first one first (rule R40, log entry 3) -/
  inbox : List HostInput
  /-- MODEL'S OWN: the history `H`, oldest event first; appended to and never read (rules R9, R40, log entry 4) -/
  hist : List HistoryEvent
deriving DecidableEq, Repr

/-- Why a step gives no next state. GSIO's own faults (`Fault(ILLEGAL)`, `Fault(RANGE)`) are not among these: they are next states
with a bit of `fault` set (spec/60_exceptions.md rule R171). -/
inductive Fault where
  /-- Raised by `step` on the input `cmdUntaken`: the command offers an event the consumer never takes, so it never completes and the
  run has no end (rule R177, entry U10 "stuck"). Safe: nothing is claimed of a state after it. -/
  | consumerStalled
deriving DecidableEq, Repr

/-- Why the model has no meaning for an instruction. -/
inductive Refusal where
  /-- Raised by an arm of `exec` for an instruction without a meaning; no arm does. Safe: nothing can be proved of such a step. -/
  | notModelled (mnemonic : String)
deriving DecidableEq, Repr

/-- An oracle without a script: every answer is a free value. -/
def Oracle.unscripted : Oracle := ⟨⟨[], 0⟩, ⟨[], 0⟩, ⟨[], 0⟩⟩

/-- The pin latches after reset (rule R36): both latches deasserted, every other pin low. -/
def Pins.reset (shiftLevel : Bool) : Pins :=
  { btnClk := false, btnLatch := !shiftLevel, ledData := false, ledClk := false, ledLatch := true, sel := #v[false, false, false] }

/-- The state after reset (rule R46) on a platform whose `BTN_LATCH_SHIFT_LEVEL` is `shiftLevel`; no input pending, no script, an
empty history. -/
def State.resetAt (shiftLevel : Bool) : State :=
  { btnCur := Vector.replicate 5 0
    btnPrev := Vector.replicate 5 0
    pressTs := Vector.replicate 5 (Vector.replicate 8 0)
    lastRead := 0
    led := Vector.replicate 5 0
    frame := 0
    potQ := Vector.replicate 6 0
    lsn := 0
    fault := 0
    result := 0
    pin := Pins.reset shiftLevel
    shiftLevel := shiftLevel
    oracle := Oracle.unscripted
    inbox := []
    hist := [] }

/-- The machine right after reset (rule R46), the shift level as the platform has it (log entry 1). -/
def State.reset : State := State.resetAt Config.btnLatchShiftLevel

end Sys2Proof.Machine
end

