-- ==== Sys2Proof/Machine/Operands.lean ====
section
/-! DEFINITION. The constants of spec/00_scope.md rule R5, the loop orders of spec/44_coordinator.md rule R166, the operand fields as
indices (spec/30_encoding.md rule R83), the bit operations, and the arithmetic of spec/43_pots.md rule R152. -/

namespace Sys2Proof.Machine

/-- `ROWS` (rule R5). -/
def rowCount : Nat := 5

/-- `COLS` (rule R5). -/
def colCount : Nat := 8

/-- `POT_COUNT` (rule R5). -/
def potCount : Nat := 6

/-- `DEBOUNCE_INTERVAL` in milliseconds (rule R5). -/
def debounceInterval : Nat := 10

/-- `SHIN_SETUP_US` in microseconds (rule R5). -/
def shinSetupUs : Nat := 2

/-- `ANALOG_RANGE_MIN` (rule R5). -/
def analogRangeMin : Nat := 25

/-- `ANALOG_RANGE_MAX` (rule R5). -/
def analogRangeMax : Nat := 1000

/-- `OUT_MAX`; `OUT_MIN` is 0 (rule R5). -/
def outMax : Nat := 1023

/-- `QUANT_SHIFT` (rule R5). -/
def quantShift : Nat := 3

/-- Bits of a byte in the order the codec moves them: 0 to 7 (rules R100, R103). -/
def bitOrder : List (Fin 8) := [0, 1, 2, 3, 4, 5, 6, 7]

/-- Rows in the order a button scan clocks them in: 4 to 0 (spec/41_buttons.md rule R113). -/
def buttonRowOrder : List Row := [4, 3, 2, 1, 0]

/-- Columns in the order a row's edges are looked at: 0 to 7 (rule R113). -/
def colOrder : List Col := [0, 1, 2, 3, 4, 5, 6, 7]

/-- Rows in the order an LED write pushes them: 0 to 4 (spec/42_leds.md rule R131). -/
def ledRowOrder : List Row := [0, 1, 2, 3, 4]

/-- Channels in the order a pass reads them: 0 to 5 (spec/43_pots.md rule R145). -/
def chanOrder : List Chan := [0, 1, 2, 3, 4, 5]

/-- Select lines in the order they are written: 0 to 2 (spec/20_memory.md rule R59). -/
def selOrder : List (Fin 3) := [0, 1, 2]

/-- `v[i] <- b`: one bit written, the others unchanged (spec/00_scope.md rule R8). -/
def setBit {n : Nat} (v : BitVec n) (i : Nat) (b : Bool) : BitVec n :=
  if b then v ||| BitVec.twoPow n i else v &&& ~~~(BitVec.twoPow n i)

/-- The row a field names, if it is one of the five (rules R83, R172). -/
def rowOf (row : BitVec 3) : Option Row := if h : row.toNat < 5 then some ⟨row.toNat, h⟩ else none

/-- The column a field names: every value is one (rule R83). -/
def colOf (col : BitVec 3) : Col := ⟨col.toNat, col.isLt⟩

/-- The listener slot a field names, if it is one of the three (rules R83, R172). -/
def slotOf (slot : BitVec 2) : Option Slot := if h : slot.toNat < 3 then some ⟨slot.toNat, h⟩ else none

/-- The constant a field names, if it is one of the three: `ROWS`, `COLS`, `POT_COUNT` (spec/44_coordinator.md rule R164). -/
def constOf (k : BitVec 2) : Option Byte :=
  match k.toNat with
  | 0 => some (BitVec.ofNat 8 rowCount)
  | 1 => some (BitVec.ofNat 8 colCount)
  | 2 => some (BitVec.ofNat 8 potCount)
  | _ => none

/-- The bit of an LED row byte that holds column `c`: `COLS-1-col` (spec/20_memory.md rule R54). -/
def ledBit (c : Col) : Nat := 7 - c.val

/-- The bit of a button row byte that holds column `c`: `col` itself (rule R55). -/
def btnBit (c : Col) : Nat := c.val

/-- The bit of `value` that `ShiftOut` sends at step `i` (spec/40_codec.md rule R103). -/
def outBit (order : BitOrder) (value : Byte) (i : Fin 8) : Bool :=
  match order with
  | .lsbFirst => value.getLsbD i.val
  | .msbFirst => value.getLsbD (7 - i.val)

/-- The level of select line `j` for channel `ch`: its binary encoding (rule R59). -/
def selBit (ch : Chan) (j : Fin 3) : Bool := ch.val.testBit j.val

/-- `(now - last_read) mod 2^32` is under the debounce interval (spec/41_buttons.md rule R111). -/
def throttled (now lastRead : Millis) : Bool := decide ((now - lastRead).toNat < debounceInterval)

/-- The hold time: `now - press_ts`, modulo 2^32 (rule R116). -/
def heldMillis (now pressed : Millis) : Millis := now - pressed

/-- `Clamp(raw)`: pinned to the band 25..1000 (spec/43_pots.md rule R147). -/
def clamp (raw : Raw) : Nat :=
  if raw.toNat < analogRangeMin then analogRangeMin
  else if analogRangeMax < raw.toNat then analogRangeMax
  else raw.toNat

/-- `Rescale(c)`: product first, quotient truncated, ten bits (rule R148). -/
def rescale (c : Nat) : BitVec 10 := BitVec.ofNat 10 ((c - analogRangeMin) * outMax / (analogRangeMax - analogRangeMin))

/-- `v >> 3`, seven bits (rule R149). -/
def quantize (v : BitVec 10) : BitVec 7 := (v >>> quantShift).setWidth 7

/-- The reported value of a raw sample: clamped, then rescaled (rule R146). -/
def potValue (raw : Raw) : BitVec 10 := rescale (clamp raw)

/-- The bucket of a raw sample (rules R146, R149). -/
def potBucket (raw : Raw) : BitVec 7 := quantize (potValue raw)

end Sys2Proof.Machine
end

