-- ==== Sys2Proof/Machine/Flags.lean ====
section
/-! DEFINITION. The two registers of flags GSIO has: the sticky fault flags (spec/10_state.md rule R34) and the listener enables
(rule R33); and the event words those enables gate (spec/60_exceptions.md rule R175). There are no condition codes (rule R34). -/

namespace Sys2Proof.Machine

/-- The bit of `fault` a code sets (rule R171). -/
def faultBit : FaultCode → Nat
  | .illegal => 0
  | .range => 1

/-- `fault[code] <- 1` (rule R171). -/
def setFault (fault : BitVec 2) (code : FaultCode) : BitVec 2 := setBit fault (faultBit code) true

/-- GSIO is faulted: `fault ≠ 0` (rule R173). -/
def State.faulted (s : State) : Bool := s.fault != 0

/-- The listener slot of an event's kind (rule R175). -/
def listenerSlot : Event → Slot
  | .down _ _ => 0
  | .up _ _ _ => 1
  | .pot _ _ => 2

/-- The listener of the event's kind is set (rule R176). -/
def listening (lsn : BitVec 3) (ev : Event) : Bool := lsn.getLsbD (listenerSlot ev).val

/-- The 40-bit event word: `kind` 39:38, `a` 37:35, `b` 34:32, `data` 31:0 (rule R175). -/
def eventWord : Event → EvWord
  | .down r c => 0b01#2 ++ BitVec.ofNat 3 r.val ++ BitVec.ofNat 3 c.val ++ 0#32
  | .up r c held => 0b10#2 ++ BitVec.ofNat 3 r.val ++ BitVec.ofNat 3 c.val ++ held
  | .pot ch v => 0b11#2 ++ BitVec.ofNat 3 ch.val ++ 0#3 ++ v.setWidth 32

/-- What `Emit(ev)` appends: the event word if its listener is set, nothing otherwise (rule R176). -/
def emitted (lsn : BitVec 3) (ev : Event) : List HistoryEvent := if listening lsn ev then [.e (eventWord ev)] else []

end Sys2Proof.Machine
end

