-- ==== Sys2Proof/Machine/Ops.lean ====
section
/-! DEFINITION. The named operations every meaning is written over: the pseudocode primitives of spec/00_scope.md rules R8 to R16, the
register writes, taking a fault (spec/60_exceptions.md rule R171) and leaving it by reset (spec/70_reset_and_hazards.md rule R200), the
two readable ports, and how a command word is admitted (spec/30_encoding.md rules R88, R89). -/

namespace Sys2Proof.Machine

/-! ## The oracle -/

/-- The answer that comes `n` draws from now: the script's, or where it has ended a free value of its own for every draw. -/
def Feed.answer {α : Type} (free : Nat → α) (f : Feed α) (n : Nat) : α := (f.script[n]?).getD (free (f.drawn + n))

/-- The feed after `n` more draws. -/
def Feed.advance {α : Type} (f : Feed α) (n : Nat) : Feed α := { script := f.script.drop n, drawn := f.drawn + n }

/-- The `n`-th next answer of `PinRead(BTN_DATA)` (rule R11). -/
def Oracle.btnDataAt (o : Oracle) (n : Nat) : Bool := o.btnData.answer Config.freeBtnData n

/-- The `n`-th next answer of `AnalogSample()` (rule R13). -/
def Oracle.ainAt (o : Oracle) (n : Nat) : Raw := o.ain.answer Config.freeAin n

/-- The `n`-th next answer of `NowMs()` (rule R14). -/
def Oracle.nowAt (o : Oracle) (n : Nat) : Millis := o.nowMs.answer Config.freeNowMs n

/-- The oracle after `n` more samples of `BTN_DATA`. -/
def Oracle.drawBtnData (o : Oracle) (n : Nat) : Oracle := { o with btnData := o.btnData.advance n }

/-- The oracle after `n` more analog samples. -/
def Oracle.drawAin (o : Oracle) (n : Nat) : Oracle := { o with ain := o.ain.advance n }

/-- The oracle after `n` more clock samples. -/
def Oracle.drawNow (o : Oracle) (n : Nat) : Oracle := { o with nowMs := o.nowMs.advance n }

/-- The oracle after the one answer, if any, that a history event records. -/
def Oracle.after (o : Oracle) : HistoryEvent → Oracle
  | .r .btnData _ => o.drawBtnData 1
  | .a _ => o.drawAin 1
  | .t _ => o.drawNow 1
  | .w _ _ => o
  | .d _ => o
  | .e _ => o
  | .res _ => o

/-! ## The primitives -/

/-- The latches with one pin driven to a level (rule R10). -/
def Pins.drive (p : Pins) (pin : Pin) (b : Bool) : Pins :=
  match pin with
  | .btnClk => { p with btnClk := b }
  | .btnLatch => { p with btnLatch := b }
  | .ledData => { p with ledData := b }
  | .ledClk => { p with ledClk := b }
  | .ledLatch => { p with ledLatch := b }
  | .sel j => { p with sel := p.sel.set j.val b }

/-- The level an output pin has (spec/10_state.md rule R36). -/
def Pins.level (p : Pins) : Pin → Bool
  | .btnClk => p.btnClk
  | .btnLatch => p.btnLatch
  | .ledData => p.ledData
  | .ledClk => p.ledClk
  | .ledLatch => p.ledLatch
  | .sel j => p.sel[j.val]

/-- `PinWrite(p, b)` (rule R10): appended even when the pin already has the level. -/
def State.pinWrite (s : State) (p : Pin) (b : Bool) : State := { s with pin := s.pin.drive p b, hist := s.hist ++ [.w p b] }

/-- The bit the next `PinRead(BTN_DATA)` answers (rule R11). -/
def State.nextBtnData (s : State) : Bool := s.oracle.btnDataAt 0

/-- `PinRead(BTN_DATA)`, after which the answer was `nextBtnData` of the state before (rule R11). -/
def State.pinRead (s : State) : State :=
  { s with oracle := s.oracle.drawBtnData 1, hist := s.hist ++ [.r .btnData s.nextBtnData] }

/-- `DelayUs(n)` (rule R12). -/
def State.delayUs (s : State) (n : Nat) : State := { s with hist := s.hist ++ [.d n] }

/-- The sample the next `AnalogSample()` answers (rule R13). -/
def State.nextAin (s : State) : Raw := s.oracle.ainAt 0

/-- `AnalogSample()`, after which the answer was `nextAin` of the state before (rule R13). -/
def State.analogSample (s : State) : State :=
  { s with oracle := s.oracle.drawAin 1, hist := s.hist ++ [.a s.nextAin] }

/-- The time the next `NowMs()` answers (rule R14). -/
def State.nextNow (s : State) : Millis := s.oracle.nowAt 0

/-- `NowMs()`, after which the answer was `nextNow` of the state before (rule R14). -/
def State.nowMs (s : State) : State :=
  { s with oracle := s.oracle.drawNow 1, hist := s.hist ++ [.t s.nextNow] }

/-- `Emit(ev)` (spec/60_exceptions.md rule R176), the consumer taking the event (rule R177, log entry 5). -/
def State.emit (s : State) (ev : Event) : State := { s with hist := s.hist ++ emitted s.lsn ev }

/-- `Result(v)` (rule R16). -/
def State.returnResult (s : State) (v : Byte) : State := { s with result := v, hist := s.hist ++ [.res v] }

/-! ## Register writes (rule R8) -/

/-- `btn_cur[r] <- v`. -/
def State.setBtnCur (s : State) (r : Row) (v : Byte) : State := { s with btnCur := s.btnCur.set r.val v }

/-- `btn_prev[r] <- v`. -/
def State.setBtnPrev (s : State) (r : Row) (v : Byte) : State := { s with btnPrev := s.btnPrev.set r.val v }

/-- `press_ts[r][c] <- t`. -/
def State.setPressTs (s : State) (r : Row) (c : Col) (t : Millis) : State :=
  { s with pressTs := s.pressTs.set r.val (s.pressTs[r.val].set c.val t) }

/-- `last_read <- t`. -/
def State.setLastRead (s : State) (t : Millis) : State := { s with lastRead := t }

/-- `led[r] <- v`. -/
def State.setLedRow (s : State) (r : Row) (v : Byte) : State := { s with led := s.led.set r.val v }

/-- `led[r][7-c] <- b`, the other bits of the row unchanged. -/
def State.setLedBit (s : State) (r : Row) (c : Col) (b : Bool) : State := s.setLedRow r (setBit s.led[r.val] (ledBit c) b)

/-- `frame <- (frame + 1) mod 256`. -/
def State.advanceFrame (s : State) : State := { s with frame := s.frame + 1 }

/-- `pot_q[ch] <- q`. -/
def State.setPotQ (s : State) (ch : Chan) (q : BitVec 7) : State := { s with potQ := s.potQ.set ch.val q }

/-- `lsn[slot] <- en`. -/
def State.setListener (s : State) (slot : Slot) (en : Bool) : State := { s with lsn := setBit s.lsn slot.val en }

/-! ## Taking a fault, and leaving it -/

/-- `raise Fault(code)`, the whole entry: one bit of `fault`, nothing saved, nothing else changed (rules R171, R181). -/
def State.raiseFault (s : State) (code : FaultCode) : State := { s with fault := setFault s.fault code }

/-- `RESET` asserted while GSIO is idle (rule R200), the only way out of a fault: every element of `S` takes its reset value. The
platform's strap, the world's answers, the host's further inputs and the history are outside `S` and stay. -/
def State.assertReset (s : State) : State :=
  { State.resetAt s.shiftLevel with oracle := s.oracle, inbox := s.inbox, hist := s.hist }

/-- The history events appended between two states (rule R9). -/
def newEvents (before after : State) : List HistoryEvent := after.hist.drop before.hist.length

/-- `RESET` asserted when a command that would take `before` to `done` has appended `n` events (rules R200, R221): the world has seen
those `n` and given their answers, and the command is abandoned (if it appends no more than `n`, it has completed). -/
def State.resetMidCommand (before done : State) (n : Nat) : State :=
  let seen := (newEvents before done).take n
  { State.resetAt before.shiftLevel with
      oracle := seen.foldl Oracle.after before.oracle, inbox := before.inbox, hist := before.hist ++ seen }

/-- The history event is an event word the consumer took. -/
def HistoryEvent.isDelivery : HistoryEvent → Bool
  | .e _ => true
  | .w _ _ => false
  | .r _ _ => false
  | .d _ => false
  | .a _ => false
  | .t _ => false
  | .res _ => false

/-- How many event words the consumer took between two states. -/
def eventsOffered (before done : State) : Nat := (newEvents before done).countP HistoryEvent.isDelivery

/-- A command whose operand field may be out of range: with no legal operand `raise Fault(RANGE)` and nothing else (rule R172). -/
def State.rangeChecked {α : Type} (s : State) (operand : Option α) (legal : α → State) : State :=
  match operand with
  | none => s.raiseFault .range
  | some a => legal a

/-! ## The ports the host reads (spec/20_memory.md rule R51) -/

/-- The `RESULT` port: the register, continuously (rule R26). -/
def State.resultPort (s : State) : Byte := s.result

/-- The `FAULT` port: the register, continuously (rule R34). -/
def State.faultPort (s : State) : BitVec 2 := s.fault

/-! ## Admitting a command word -/

/-- The decode procedure of rules R88 and R89 over a meaning `run` for each command: a faulted GSIO discards the word and changes
nothing (rule R173); a word that is no command raises `Fault(ILLEGAL)`; any other runs its meaning. -/
def issueWith (run : Instr → State → Host.Outcome State Fault Refusal) (w : CmdWord) (s : State) : Host.Outcome State Fault Refusal :=
  if s.faulted then .next s
  else
    match decode w with
    | .error _ => .next (s.raiseFault .illegal)
    | .ok i => run i s

end Sys2Proof.Machine
end

