-- ==== Sys2Proof/Machine/Codec.lean ====
section
/-! DEFINITION. The shift-register codec (spec/40_codec.md): the procedures `ShiftIn` and `ShiftOut` and the commands SHIN and SHOUT.
Neither drives a latch (rule R105). -/

namespace Sys2Proof.Machine

/-- One clock period of `ShiftIn`: clock low, wait, sample into bit `i`, clock high (rule R100). -/
def shiftInStep (acc : Byte × State) (i : Fin 8) : Byte × State :=
  let s := (acc.2.pinWrite .btnClk false).delayUs shinSetupUs
  (setBit acc.1 i.val s.nextBtnData, s.pinRead.pinWrite .btnClk true)

/-- `ShiftIn()`: the byte assembled, first sample in bit 0, and the state after (rules R53, R100). -/
def shiftIn (s : State) : Byte × State := bitOrder.foldl shiftInStep (0, s)

/-- One clock period of `ShiftOut`: data, clock high, clock low (rule R103). -/
def shiftOutStep (order : BitOrder) (value : Byte) (s : State) (i : Fin 8) : State :=
  ((s.pinWrite .ledData (outBit order value i)).pinWrite .ledClk true).pinWrite .ledClk false

/-- `ShiftOut(order, value)` (rule R103). -/
def shiftOut (order : BitOrder) (value : Byte) (s : State) : State := bitOrder.foldl (shiftOutStep order value) s

/-- SHIN: `Result(ShiftIn())` (rule R101). -/
def execShin (s : State) : Host.Outcome State Fault Refusal := .next ((shiftIn s).2.returnResult (shiftIn s).1)

/-- SHOUT: `ShiftOut(order, value)` (rule R104). -/
def execShout (order : BitOrder) (value : Byte) (s : State) : Host.Outcome State Fault Refusal := .next (shiftOut order value s)

end Sys2Proof.Machine
end

