-- ==== Sys2Proof/Machine/Buttons.lean ====
section
/-! DEFINITION. The button matrix reader (spec/41_buttons.md): the debounce guard, the scan with its latch framing and edge detection,
and the commands RDBTN, INIT and GETBTN. -/

namespace Sys2Proof.Machine

/-- `Emit(ev)` guarded by `notify = 1` (rule R113). -/
def State.emitIf (s : State) (notify : Bool) (ev : Event) : State := if notify then s.emit ev else s

/-- The bit of cell (r, c) in a row array (rule R55). -/
def cellBit (rows : Vector Byte 5) (r : Row) (c : Col) : Bool := rows[r.val].getLsbD (btnBit c)

/-- One column of a row's edge detection (rule R113, step 4): a press emits and records the time; a release emits the hold time. -/
def scanCell (now : Millis) (notify : Bool) (r : Row) (s : State) (c : Col) : State :=
  let p := cellBit s.btnPrev r c
  let q := cellBit s.btnCur r c
  let s := if !p && q then (s.emitIf notify (.down r c)).setPressTs r c now else s
  if p && !q then s.emitIf notify (.up r c (heldMillis now s.pressTs[r.val][c.val])) else s

/-- One row of a scan (rule R113, steps 3 and 4): save, sample, and look at the columns if the byte changed. -/
def scanRow (now : Millis) (notify : Bool) (s : State) (r : Row) : State :=
  let s := s.setBtnPrev r s.btnCur[r.val]
  let s := (shiftIn s).2.setBtnCur r (shiftIn s).1
  if s.btnCur[r.val] != s.btnPrev[r.val] then colOrder.foldl (scanCell now notify r) s else s

/-- `ScanButtons(now, notify)` (rule R113): assert the latch, scan the rows top first, deassert it, record the time. -/
def scanButtons (now : Millis) (notify : Bool) (s : State) : State :=
  ((buttonRowOrder.foldl (scanRow now notify) (s.pinWrite .btnLatch s.shiftLevel)).pinWrite .btnLatch (!s.shiftLevel)).setLastRead now

/-- `ReadButtons()` (rule R112): one clock sample; within the debounce interval nothing else. -/
def readButtons (s : State) : State :=
  if throttled s.nextNow s.lastRead then s.nowMs else scanButtons s.nextNow true s.nowMs

/-- RDBTN: `ReadButtons()` (rule R117). -/
def execRdbtn (s : State) : Host.Outcome State Fault Refusal := .next (readButtons s)

/-- INIT: one clock sample, then a scan with no guard and no events (rule R118). -/
def execInit (s : State) : Host.Outcome State Fault Refusal := .next (scanButtons s.nextNow false s.nowMs)

/-- GETBTN: the current boolean of a cell, extended to a byte (rule R119). -/
def execGetbtn (row col : BitVec 3) (s : State) : Host.Outcome State Fault Refusal :=
  .next (s.rangeChecked (rowOf row) fun r => s.returnResult ((BitVec.ofBool (cellBit s.btnCur r (colOf col))).setWidth 8))

end Sys2Proof.Machine
end

