-- ==== Sys2Proof/Machine/Pots.lean ====
section
/-! DEFINITION. The potentiometer reader (spec/43_pots.md): the channel loop with its quantization filter, and the command RDPOT. -/

namespace Sys2Proof.Machine

/-- The channel's code put on the select lines, line 0 first (spec/20_memory.md rule R59). -/
def selectChannel (s : State) (ch : Chan) : State := selOrder.foldl (fun s j => s.pinWrite (.sel j) (selBit ch j)) s

/-- The quantization filter (rules R146, R149): a changed bucket is reported with the full-resolution value and stored. -/
def filterPot (ch : Chan) (raw : Raw) (s : State) : State :=
  if potBucket raw != s.potQ[ch.val] then (s.emit (.pot ch (potValue raw))).setPotQ ch (potBucket raw) else s

/-- One channel of a pass (rule R146): select, sample, filter. -/
def readPot (s : State) (ch : Chan) : State :=
  let s := selectChannel s ch
  filterPot ch s.nextAin s.analogSample

/-- `ReadPots()` (rule R146). -/
def readPots (s : State) : State := chanOrder.foldl readPot s

/-- RDPOT: `ReadPots()` (rule R150). -/
def execRdpot (s : State) : Host.Outcome State Fault Refusal := .next (readPots s)

end Sys2Proof.Machine
end

