-- ==== Sys2Proof/Machine/Coordinator.lean ====
section
/-! DEFINITION. The coordinator (spec/44_coordinator.md): the commands READ, LISTEN and GETCFG. -/

namespace Sys2Proof.Machine

/-- READ: `ReadButtons()`, then `ReadPots()`, always both (rule R161). -/
def execRead (s : State) : Host.Outcome State Fault Refusal := .next (readPots (readButtons s))

/-- LISTEN: one listener enable (rule R163). -/
def execListen (slot : BitVec 2) (en : Bool) (s : State) : Host.Outcome State Fault Refusal :=
  .next (s.rangeChecked (slotOf slot) fun j => s.setListener j en)

/-- GETCFG: one of the read-only constants (rule R164). -/
def execGetcfg (k : BitVec 2) (s : State) : Host.Outcome State Fault Refusal :=
  .next (s.rangeChecked (constOf k) fun v => s.returnResult v)

end Sys2Proof.Machine
end

