-- ==== Sys2Proof/Machine/Leds.lean ====
section
/-! DEFINITION. The LED matrix writer (spec/42_leds.md): the write procedure with its latch framing and blink, and the commands WRLED,
WRITE, SETLED and SETROW. -/

namespace Sys2Proof.Machine

/-- The byte a write sends for row `r`: the stored bitmask on an even frame, zero on an odd one (rule R131). -/
def ledByte (s : State) (r : Row) : Byte := if s.frame.getLsbD 0 then 0 else s.led[r.val]

/-- One row of a write, least significant bit first (rule R131). -/
def writeLedRow (s : State) (r : Row) : State := shiftOut .lsbFirst (ledByte s r) s

/-- `WriteLeds()` (rule R131): latch low, the five rows in ascending order, latch high. -/
def writeLeds (s : State) : State := (ledRowOrder.foldl writeLedRow (s.pinWrite .ledLatch false)).pinWrite .ledLatch true

/-- WRLED: `WriteLeds()` (rule R132). -/
def execWrled (s : State) : Host.Outcome State Fault Refusal := .next (writeLeds s)

/-- WRITE: `WriteLeds()`, then the frame counter advances (rule R133). -/
def execWrite (s : State) : Host.Outcome State Fault Refusal := .next (writeLeds s).advanceFrame

/-- SETLED: one bit of a row's bitmask (rule R135). -/
def execSetled (row col : BitVec 3) (val : Bool) (s : State) : Host.Outcome State Fault Refusal :=
  .next (s.rangeChecked (rowOf row) fun r => s.setLedBit r (colOf col) val)

/-- SETROW: a whole row's bitmask (rule R136). -/
def execSetrow (row : BitVec 3) (value : Byte) (s : State) : Host.Outcome State Fault Refusal :=
  .next (s.rangeChecked (rowOf row) fun r => s.setLedRow r value)

end Sys2Proof.Machine
end

