-- ==== Sys2Proof/Machine/Dispatch.lean ====
section
/-! DEFINITION. One arm for each command of spec/30_encoding.md rule R84, each one direct call of the command's meaning. -/

namespace Sys2Proof.Machine

def exec (i : Instr) (s : State) : Host.Outcome State Fault Refusal :=
  match i with
  | .init => Sys2Proof.Machine.execInit s
  | .read => Sys2Proof.Machine.execRead s
  | .write => Sys2Proof.Machine.execWrite s
  | .rdbtn => Sys2Proof.Machine.execRdbtn s
  | .rdpot => Sys2Proof.Machine.execRdpot s
  | .wrled => Sys2Proof.Machine.execWrled s
  | .shin => Sys2Proof.Machine.execShin s
  | .shout order value => Sys2Proof.Machine.execShout order value s
  | .setled row col val => Sys2Proof.Machine.execSetled row col val s
  | .setrow row value => Sys2Proof.Machine.execSetrow row value s
  | .getbtn row col => Sys2Proof.Machine.execGetbtn row col s
  | .listen slot en => Sys2Proof.Machine.execListen slot en s
  | .getcfg k => Sys2Proof.Machine.execGetcfg k s

end Sys2Proof.Machine
end

