-- ==== Sys2Proof/Machine/Input.lean ====
section
/-! DEFINITION. What each input of the host and the consumer does (spec/70_reset_and_hazards.md rule R221), over a meaning `run` for
each command. -/

namespace Sys2Proof.Machine

/-- A command word whose execution the host cuts short by `RESET` after `n` history events (rules R200, R221). -/
def issueThenReset (run : Instr → State → Host.Outcome State Fault Refusal) (w : CmdWord) (n : Nat) (s : State) :
    Host.Outcome State Fault Refusal :=
  match issueWith run w s with
  | .next t => .next (s.resetMidCommand t n)
  | .fault f => .fault f
  | .refused r => .refused r

/-- A command word of which the consumer takes `k` events and never another: a command that offers more never completes
(spec/60_exceptions.md rule R177, entry U10). -/
def issueUntaken (run : Instr → State → Host.Outcome State Fault Refusal) (w : CmdWord) (k : Nat) (s : State) :
    Host.Outcome State Fault Refusal :=
  match issueWith run w s with
  | .next t => if k < eventsOffered s t then .fault .consumerStalled else .next t
  | .fault f => .fault f
  | .refused r => .refused r

/-- The effect of one input on the state from which it has been taken. -/
def takeInput (run : Instr → State → Host.Outcome State Fault Refusal) (input : HostInput) (s : State) :
    Host.Outcome State Fault Refusal :=
  match input with
  | .cmd w => issueWith run w s
  | .cmdThenReset w n => issueThenReset run w n s
  | .cmdUntaken w k => issueUntaken run w k s
  | .reset => .next s.assertReset

end Sys2Proof.Machine
end

