-- ==== Sys2Proof/Machine/Step.lean ====
section
/-! DEFINITION. The step function: GSIO takes the host's next input and executes it to completion (spec/30_encoding.md rule R81,
spec/10_state.md rules R42, R45); without one it is idle (spec/60_exceptions.md rule R188). -/

namespace Sys2Proof.Machine

/-- One step. -/
def step (s : State) : Host.Outcome State Fault Refusal :=
  match s.inbox with
  | [] => .next s
  | input :: rest => takeInput exec input { s with inbox := rest }

/-- The state whose next step runs the command word whose low `nbits` bits are those of `w`: GSIO fetches nothing, the host issues the
word (spec/30_encoding.md rule R80), so it stands first among the inputs to come. -/
def State.withFetchWord (s : State) (nbits w : Nat) : State := { s with inbox := .cmd (wordOfTable nbits w) :: s.inbox }

end Sys2Proof.Machine
end

