-- ==== Sys2Proof/Machine/Assembler.lean ====
section
/-! DEFINITION. The assembler of spec/30_encoding.md rule R90, from a line's mnemonic and operands on: the operand names, the command a
line stands for, and its word as the row's `match` value with each operand shifted to its field. Splitting a line of text at spaces,
commas and `;` is left to the tool (log entry 7). -/

namespace Sys2Proof

/-- An operand of a line: a number or a symbolic name (rule R90). -/
inductive AsmOperand where
  | num (n : Nat)
  | sym (name : String)
deriving DecidableEq, Repr

/-- A number under a bound, or one of the names, each standing for its place in the list. -/
def AsmOperand.value (names : List String) (bound : Nat) : AsmOperand → Option Nat
  | .num n => if n < bound then some n else none
  | .sym name => if name ∈ names then some (names.idxOf name) else none

/-- The command a line stands for, its operands within the ranges rule R90 gives them; none for any other line. -/
def assembleLine (mnemonic : String) (operands : List AsmOperand) : Option Instr :=
  match operands with
  | [] =>
    if mnemonic = "INIT" then some .init
    else if mnemonic = "READ" then some .read
    else if mnemonic = "WRITE" then some .write
    else if mnemonic = "RDBTN" then some .rdbtn
    else if mnemonic = "RDPOT" then some .rdpot
    else if mnemonic = "WRLED" then some .wrled
    else if mnemonic = "SHIN" then some .shin
    else none
  | [a] =>
    if mnemonic = "GETCFG" then do
      let k ← a.value ["ROWS", "COLS", "POTS"] 3
      some (.getcfg (BitVec.ofNat 2 k))
    else none
  | [a, b] =>
    if mnemonic = "SHOUT" then do
      let order ← a.value ["LSB", "MSB"] 2
      let value ← b.value [] 256
      some (.shout (if order = 0 then .lsbFirst else .msbFirst) (BitVec.ofNat 8 value))
    else if mnemonic = "SETROW" then do
      let row ← a.value [] 5
      let value ← b.value [] 256
      some (.setrow (BitVec.ofNat 3 row) (BitVec.ofNat 8 value))
    else if mnemonic = "GETBTN" then do
      let row ← a.value [] 5
      let col ← b.value [] 8
      some (.getbtn (BitVec.ofNat 3 row) (BitVec.ofNat 3 col))
    else if mnemonic = "LISTEN" then do
      let slot ← a.value ["DOWN", "UP", "POT"] 3
      let en ← b.value [] 2
      some (.listen (BitVec.ofNat 2 slot) (en == 1))
    else none
  | [a, b, c] =>
    if mnemonic = "SETLED" then do
      let row ← a.value [] 5
      let col ← b.value [] 8
      let val ← c.value [] 2
      some (.setled (BitVec.ofNat 3 row) (BitVec.ofNat 3 col) (val == 1))
    else none
  | _ :: _ :: _ :: _ :: _ => none

/-- The word of a command as rule R90 writes it: the row's `match` value of rule R84 with each operand shifted to its field. -/
def assembleWord : Instr → CmdWord
  | .init => 0x1000
  | .read => 0x2000
  | .write => 0x3000
  | .rdbtn => 0x4000
  | .rdpot => 0x5000
  | .wrled => 0x6000
  | .shin => 0x7000
  | .shout order value => 0x8000 ||| BitVec.ofNat 16 (orderBit order).toNat <<< 8 ||| value.setWidth 16
  | .setled row col val => 0x9000 ||| row.setWidth 16 <<< 8 ||| col.setWidth 16 <<< 4 ||| BitVec.ofNat 16 val.toNat
  | .setrow row value => 0xA000 ||| row.setWidth 16 <<< 8 ||| value.setWidth 16
  | .getbtn row col => 0xB000 ||| row.setWidth 16 <<< 8 ||| col.setWidth 16 <<< 4
  | .listen slot en => 0xC000 ||| slot.setWidth 16 <<< 8 ||| BitVec.ofNat 16 en.toNat
  | .getcfg k => 0xD000 ||| k.setWidth 16 <<< 8

end Sys2Proof
end

