-- ==== Sys2Proof/Machine/Reference.lean ====
section
/-! DEFINITION. The reference environment of spec/20_memory.md section 6 (rules R70 to R73): the button cascade, the LED cascade, the
multiplexer with its converter, the clock, the buttons and the potentiometers. It follows a timeline, in which the history events of
GSIO and its RESETs stand in order among the things that happen in the world (a button moves, a potentiometer turns, time passes), and
it answers `none` where a sample in the timeline is not the one these devices give. The environment is informative: no meaning of a
command uses it, and a claim about every environment uses the oracle of `State` alone (log entry 6). -/

namespace Sys2Proof.Machine

/-- The far side of the pins (rule R70), with the pin levels it sees. -/
@[ext]
structure Env where
  /-- the level that asserts the button latch (rule R6) -/
  shiftLevel : Bool
  /-- the levels on GSIO's output pins -/
  pin : Pins
  /-- `phys_btn[r][c]`: the button is held down now -/
  physBtn : Vector (Vector Bool 8) 5
  /-- `bq`: the 40 bits captured by the button cascade -/
  bq : Vector Bool 40
  /-- `bhead`, 0..40: how far the button cascade has been shifted -/
  bhead : Fin 41
  /-- `lsr`: the last 40 bits shifted into the LED cascade, oldest first -/
  lsr : Vector Bool 40
  /-- `lout[r][c]`: the LED outputs -/
  lout : Vector (Vector Bool 8) 5
  /-- `phys_pot[ch]`: a raw value for each channel -/
  physPot : Vector Raw 6
  /-- `clock_ms` -/
  clockMs : Nat
deriving DecidableEq, Repr

/-! ## The devices -/

/-- The frame the button cascade captures: bit `n` is the button at row `4 - n div 8`, column `n mod 8` (rules R56, R71). -/
def capturedFrame (phys : Vector (Vector Bool 8) 5) : Vector Bool 40 :=
  Vector.ofFn fun n : Fin 40 => (phys[4 - n.val / 8]'(by omega))[n.val % 8]'(by omega)

/-- `bhead <- min(bhead+1, 40)` (rule R71). -/
def shiftedHead (head : Fin 41) : Fin 41 := ⟨min (head.val + 1) 40, by omega⟩

/-- The bit the button cascade presents: in shift mode `bq[bhead]`, or 0 when all 40 are gone; else button (4, 0) (rule R71). -/
def Env.btnBit (v : Env) : Bool :=
  if v.pin.btnLatch = v.shiftLevel then (if h : v.bhead.val < 40 then v.bq[v.bhead.val] else false) else v.physBtn[4][0]

/-- The LED cascade with one bit appended and the oldest dropped (rule R72). -/
def shiftedBits (lsr : Vector Bool 40) (b : Bool) : Vector Bool 40 :=
  Vector.ofFn fun n : Fin 40 => if h : n.val < 39 then lsr[n.val + 1] else b

/-- The LED outputs that 40 shifted bits give: bit `n` is the LED at row `n div 8`, column `7 - n mod 8` (rules R57, R72). -/
def shownLeds (lsr : Vector Bool 40) : Vector (Vector Bool 8) 5 :=
  Vector.ofFn fun r : Fin 5 => Vector.ofFn fun c : Fin 8 => lsr[8 * r.val + (7 - c.val)]'(by omega)

/-- The channel on the select lines (rule R73). -/
def Pins.selected (p : Pins) : Nat := p.sel[2].toNat * 4 + p.sel[1].toNat * 2 + p.sel[0].toNat

/-- The environment after an output pin is written (rules R71, R72). -/
def Env.pinWritten (v : Env) (p : Pin) (b : Bool) : Env :=
  let v' : Env := { v with pin := v.pin.drive p b }
  match p with
  | .btnLatch => if b = v.shiftLevel then { v' with bq := capturedFrame v.physBtn, bhead := 0 } else v'
  | .btnClk => if b && !v.pin.btnClk && v.pin.btnLatch == v.shiftLevel then { v' with bhead := shiftedHead v.bhead } else v'
  | .ledClk => if b && !v.pin.ledClk then { v' with lsr := shiftedBits v.lsr v.pin.ledData } else v'
  | .ledLatch => if b && !v.pin.ledLatch then { v' with lout := shownLeds v.lsr } else v'
  | .ledData => v'
  | .sel _ => v'

/-- A sample the multiplexer and converter may give: the selected channel's value; any value for codes 6 and 7 (rule R73). -/
def Env.givesRaw (v : Env) (raw : Raw) : Bool :=
  if h : v.pin.selected < 6 then raw == v.physPot[v.pin.selected] else true

/-- What `NowMs()` answers: `clock_ms mod 2^32` (rule R73). -/
def Env.now (v : Env) : Millis := BitVec.ofNat 32 v.clockMs

/-- GSIO's pins after `RESET`: the reset levels appear on the pins, and the devices shift, capture and transfer nothing
(spec/70_reset_and_hazards.md rule R201; log entry 14). -/
def Env.gsioReset (v : Env) : Env := { v with pin := Pins.reset v.shiftLevel }

/-! ## Timelines -/

/-- What can happen at the pins and in the world behind them. -/
inductive WorldEvent where
  /-- GSIO appends this event to its history -/
  | seen (h : HistoryEvent)
  /-- `RESET` is asserted, which appends nothing to the history -/
  | reset
  /-- button (r, c) is pressed or released -/
  | button (r : Row) (c : Col) (held : Bool)
  /-- the potentiometer of a channel is turned to a raw value -/
  | turn (ch : Chan) (raw : Raw)
  /-- `clock_ms` grows (it never decreases: rule R73) -/
  | elapse (ms : Nat)
deriving DecidableEq, Repr

/-- The environment after one history event, if the event's answer is one it gives. -/
def Env.observe (v : Env) (h : HistoryEvent) : Option Env :=
  match h with
  | .w p b => some (v.pinWritten p b)
  | .r .btnData b => if b = v.btnBit then some v else none
  | .a raw => if v.givesRaw raw then some v else none
  | .t ms => if ms = v.now then some v else none
  | .d _ => some v
  | .e _ => some v
  | .res _ => some v

/-- The environment after one thing that happens. -/
def Env.react (v : Env) : WorldEvent → Option Env
  | .seen h => v.observe h
  | .reset => some v.gsioReset
  | .button r c held => some { v with physBtn := v.physBtn.set r.val (v.physBtn[r.val].set c.val held) }
  | .turn ch raw => some { v with physPot := v.physPot.set ch.val raw }
  | .elapse ms => some { v with clockMs := v.clockMs + ms }

/-- The environment after a timeline, if every sample in it is one the environment gives at that moment. -/
def Env.follow (v : Env) (timeline : List WorldEvent) : Option Env := timeline.foldlM Env.react v

/-- The event is GSIO's: something at its pins, not something in the world behind them. -/
def WorldEvent.ofGsio : WorldEvent → Bool
  | .seen _ => true
  | .reset => true
  | .button _ _ _ => false
  | .turn _ _ => false
  | .elapse _ => false

/-- GSIO's part of a timeline. -/
def gsioPart (timeline : List WorldEvent) : List WorldEvent := timeline.filter WorldEvent.ofGsio

/-- What a stretch of history shows to the environment, with no `RESET` in it. -/
def seenEvents (hs : List HistoryEvent) : List WorldEvent := hs.map .seen

/-- The input asserts `RESET`, while idle or in the middle of a command. -/
def HostInput.assertsReset : HostInput → Bool
  | .cmd _ => false
  | .cmdThenReset _ _ => true
  | .cmdUntaken _ _ => false
  | .reset => true

/-- What a step from `s` to `t` shows to the environment: the history events it appends, and then the `RESET` if its input asserts it
(rule R200). -/
def stepEvents (s t : State) : List WorldEvent :=
  seenEvents (newEvents s t) ++ if s.inbox.head?.any HostInput.assertsReset then [.reset] else []

/-- The environment when GSIO comes out of reset, for the buttons held, the potentiometers and the clock that a test program names
(spec/95_test_vectors.md section 3): the pins at their reset levels, what the two cascades hold a free value (log entry 13). -/
def Env.start (shiftLevel : Bool) (physBtn : Vector (Vector Bool 8) 5) (physPot : Vector Raw 6) (clockMs : Nat) : Env :=
  { shiftLevel := shiftLevel
    pin := Pins.reset shiftLevel
    physBtn := physBtn
    bq := Config.freeCapture
    bhead := Config.freeCaptureHead
    lsr := Config.freeLedBits
    lout := Config.freeLedOutputs
    physPot := physPot
    clockMs := clockMs }

end Sys2Proof.Machine
end

