-- ==== Sys2Proof/Safety.lean ====
section
/-! DEFINITION. The terms claims are stated in: the groups of history events spec/95_test_vectors.md abbreviates, what a scan, an LED
write and a pot pass show of the world, runs and their success (spec/70_reset_and_hazards.md rule R222), and the invariants a step
keeps. None of it is used by the machine. -/

namespace Sys2Proof.Machine

/-! ## What the world answers -/

/-- The byte `Σ b_i · 2^i` of eight answers in time order (spec/40_codec.md rule R100). -/
def byteOf (b : Nat → Bool) : Byte := BitVec.ofNat 8 ((List.range 8).foldr (fun i n => (b i).toNat + 2 * n) 0)

/-- The byte the next eight samples of `BTN_DATA` make. -/
def nextByte (o : Oracle) : Byte := byteOf o.btnDataAt

/-- The byte a scan samples for row `r`: column `c` is sample `8·(4-r)+c` of the frame (spec/20_memory.md rule R56). -/
def sampledRow (o : Oracle) (r : Row) : Byte := byteOf fun c => o.btnDataAt (8 * (4 - r.val) + c)

/-- The five bytes a scan samples, indexed by row. -/
def sampledRows (o : Oracle) : Vector Byte 5 := Vector.ofFn (sampledRow o)

/-! ## Groups of history events -/

/-- `in:b0..b7`, the 32 events of one `ShiftIn` that gave `v` (rule R100). -/
def shiftInEvents (v : Byte) : List HistoryEvent :=
  bitOrder.flatMap fun i => [.w .btnClk false, .d 2, .r .btnData (v.getLsbD i.val), .w .btnClk true]

/-- `out:b0..b7`, the 24 events of one `ShiftOut` (rule R103). -/
def shiftOutEvents (order : BitOrder) (value : Byte) : List HistoryEvent :=
  bitOrder.flatMap fun i => [.w .ledData (outBit order value i), .w .ledClk true, .w .ledClk false]

/-- The select writes of one channel (rule R59). -/
def selectEvents (ch : Chan) : List HistoryEvent :=
  [.w (.sel 0) (ch.val.testBit 0), .w (.sel 1) (ch.val.testBit 1), .w (.sel 2) (ch.val.testBit 2)]

/-- Cell (r, c) goes 0 to 1 between the old rows and the new (spec/41_buttons.md rule R113). -/
def risingEdge (old new : Vector Byte 5) (r : Row) (c : Col) : Bool := !old[r.val].getLsbD c.val && new[r.val].getLsbD c.val

/-- Cell (r, c) goes 1 to 0 between the old rows and the new (rule R113). -/
def fallingEdge (old new : Vector Byte 5) (r : Row) (c : Col) : Bool := old[r.val].getLsbD c.val && !new[r.val].getLsbD c.val

/-- The event words a scan at time `now` delivers for row `r` of the rows `new`, in column order (rules R113, R115, R176). -/
def edgeEvents (s : State) (new : Vector Byte 5) (now : Millis) (r : Row) : List HistoryEvent :=
  colOrder.flatMap fun c =>
    if risingEdge s.btnCur new r c then emitted s.lsn (.down r c)
    else if fallingEdge s.btnCur new r c then emitted s.lsn (.up r c (now - s.pressTs[r.val][c.val]))
    else []

/-- The history of one scan (rule R113): latch, five rows from the top, each with its events if notified, latch. -/
def scanEvents (s : State) (now : Millis) (notify : Bool) : List HistoryEvent :=
  .w .btnLatch s.shiftLevel ::
    (buttonRowOrder.flatMap fun r =>
      shiftInEvents (sampledRow s.oracle r) ++ if notify then edgeEvents s (sampledRows s.oracle) now r else []) ++
    [.w .btnLatch (!s.shiftLevel)]

/-- The timestamps after a scan: `now` where a cell was pressed, the old one elsewhere (rule R113). -/
def scannedPressTs (s : State) (now : Millis) : Vector (Vector Millis 8) 5 :=
  Vector.ofFn fun r : Row => Vector.ofFn fun c : Col =>
    if risingEdge s.btnCur (sampledRows s.oracle) r c then now else s.pressTs[r.val][c.val]

/-- The state after a clock sample and an accepted scan, field by field (rules R113, R114, R116). -/
def scannedState (s : State) (notify : Bool) : State :=
  let now := s.oracle.nowAt 0
  { s with
    btnCur := sampledRows s.oracle
    btnPrev := s.btnCur
    pressTs := scannedPressTs s now
    lastRead := now
    pin := { s.pin with btnClk := true, btnLatch := !s.shiftLevel }
    oracle := (s.oracle.drawNow 1).drawBtnData 40
    hist := s.hist ++ .t now :: scanEvents s now notify }

/-- The command makes an accepted scan: INIT always, RDBTN and READ from 10 ms after the last one on (rules R111, R112, R118, R161). -/
def State.Scans (s : State) (i : Instr) : Prop :=
  i = .init ∨ ((i = .rdbtn ∨ i = .read) ∧ 10 ≤ (s.oracle.nowAt 0 - s.lastRead).toNat)

/-- The byte a write sends for row `r` (spec/42_leds.md rule R131). -/
def shownByte (s : State) (r : Row) : Byte := if s.frame.toNat % 2 = 0 then s.led[r.val] else 0

/-- The history of one LED write (rule R131). -/
def ledWriteEvents (s : State) : List HistoryEvent :=
  .w .ledLatch false :: (ledRowOrder.flatMap fun r => shiftOutEvents .lsbFirst (shownByte s r)) ++ [.w .ledLatch true]

/-- The pins after an LED write: the last bit sent is row 4's bit 7 (rule R131). -/
def ledWrittenPins (s : State) : Pins :=
  { s.pin with ledData := (shownByte s 4).getLsbD 7, ledClk := false, ledLatch := true }

/-- The event words one channel of a pot pass delivers for a raw sample (spec/43_pots.md rule R146). -/
def potEvents (s : State) (ch : Chan) (raw : Raw) : List HistoryEvent :=
  if potBucket raw = s.potQ[ch.val] then [] else emitted s.lsn (.pot ch (potValue raw))

/-- The history of one pot pass (rule R146). -/
def potPassEvents (s : State) : List HistoryEvent :=
  chanOrder.flatMap fun ch => selectEvents ch ++ .a (s.oracle.ainAt ch.val) :: potEvents s ch (s.oracle.ainAt ch.val)

/-- The state after a pot pass, field by field (rules R146, R153). -/
def potPassState (s : State) : State :=
  { s with
    potQ := Vector.ofFn fun ch : Chan => potBucket (s.oracle.ainAt ch.val)
    pin := { s.pin with sel := #v[true, false, true] }
    oracle := s.oracle.drawAin 6
    hist := s.hist ++ potPassEvents s }

/-! ## Reading a history -/

/-- The levels driven on one output pin, in time order. -/
def drivenLevels (p : Pin) (hs : List HistoryEvent) : List Bool :=
  hs.filterMap fun h => match h with
    | .w q b => if q = p then some b else none
    | .r _ _ => none
    | .d _ => none
    | .a _ => none
    | .t _ => none
    | .e _ => none
    | .res _ => none

/-- The event words delivered, in time order. -/
def deliveredWords (hs : List HistoryEvent) : List EvWord :=
  hs.filterMap fun h => match h with
    | .e word => some word
    | .w _ _ => none
    | .r _ _ => none
    | .d _ => none
    | .a _ => none
    | .t _ => none
    | .res _ => none

/-- The microseconds asked of the delay service (rule R12). -/
def delayTotal (hs : List HistoryEvent) : Nat :=
  (hs.map fun h => match h with
    | .d n => n
    | .w _ _ => 0
    | .r _ _ => 0
    | .a _ => 0
    | .t _ => 0
    | .e _ => 0
    | .res _ => 0).sum

/-- The button event words about cell (r, c): those with `a = r` and `b = c` that are no pot event (rule R175). -/
def cellWords (r : Row) (c : Col) (hs : List HistoryEvent) : List EvWord :=
  (deliveredWords hs).filter fun word =>
    word.extractLsb' 38 2 != 3 && word.extractLsb' 35 3 == BitVec.ofNat 3 r.val && word.extractLsb' 32 3 == BitVec.ofNat 3 c.val

/-- The pin levels after the writes of a history (rule R10). -/
def Pins.afterEvents (p : Pins) (hs : List HistoryEvent) : Pins :=
  hs.foldl (fun p h => match h with
    | .w q b => p.drive q b
    | .r _ _ => p
    | .d _ => p
    | .a _ => p
    | .t _ => p
    | .e _ => p
    | .res _ => p) p

/-- The answer a history event records is the one the oracle gives next (rules R11, R13, R14). -/
def Oracle.Confirms (o : Oracle) : HistoryEvent → Prop
  | .r .btnData b => b = o.btnDataAt 0
  | .a raw => raw = o.ainAt 0
  | .t ms => ms = o.nowAt 0
  | .w _ _ => True
  | .d _ => True
  | .e _ => True
  | .res _ => True

/-- Every answer in the history is the oracle's, each drawn once and in order, and `after` is what is left. -/
def Oracle.Explains (o : Oracle) (hs : List HistoryEvent) (after : Oracle) : Prop :=
  match hs with
  | [] => after = o
  | h :: rest => o.Confirms h ∧ Oracle.Explains (o.after h) rest after

/-! ## Runs (rule R222) -/

/-- The state from which the host issues these words, in order, and nothing else. -/
def State.withProgram (s : State) (words : List CmdWord) : State := { s with inbox := words.map .cmd }

/-- The run of these words from a state, each executed to completion. -/
def runProgram (s : State) (words : List CmdWord) : Host.Outcome State Fault Refusal :=
  Sys2Proof.core.run words.length (s.withProgram words)

/-- The run has ended and GSIO is not faulted: a successful run (rule R222). -/
def successful (o : Host.Outcome State Fault Refusal) : Bool :=
  match o with
  | .next t => !t.faulted && t.inbox.isEmpty
  | .fault _ => false
  | .refused _ => false

/-! ## What every step keeps -/

/-- Between commands the lines rest: both latches deasserted, the LED clock low, a channel 0 to 5 selected; and at most one fault bit
is set, because the first fault stops every later command (rules R36, R59, R173). -/
structure State.Rested (s : State) : Prop where
  btnLatch : s.pin.btnLatch = !s.shiftLevel
  ledLatch : s.pin.ledLatch = true
  ledClk : s.pin.ledClk = false
  channel : s.pin.selected < 6
  fault : s.fault = 0 ∨ s.fault = 1 ∨ s.fault = 2

/-- The event word is one that rule R175 gives a meaning: a row of the matrix, a channel, a value in 0..1023, and no other bits. -/
def EvWord.produced (word : EvWord) : Bool :=
  let kind := word.extractLsb' 38 2
  let a := (word.extractLsb' 35 3).toNat
  let b := word.extractLsb' 32 3
  let data := (word.extractLsb' 0 32).toNat
  (kind == 1 && decide (a < 5) && decide (data = 0)) || (kind == 2 && decide (a < 5)) ||
    (kind == 3 && decide (a < 6) && b == 0 && decide (data < 1024))

/-- Every event word in the history is one rule R175 describes. -/
def State.EventsProduced (s : State) : Prop := ∀ word, HistoryEvent.e word ∈ s.hist → EvWord.produced word = true

/-- Every cell now pressed was recorded: its timestamp is a time the clock gave (the case decision D30 says no run reaches is absent). -/
def State.PressesRecorded (s : State) : Prop :=
  ∀ (r : Row) (c : Col), s.btnCur[r.val].getLsbD c.val = true → HistoryEvent.t (s.pressTs[r.val][c.val]) ∈ s.hist

end Sys2Proof.Machine
end

