-- ==== Sys2Proof/Certificates/Slice0/Obligations.lean ====
section
/-! DEFINITION. The statements for the provers, each a rule of the spec or a consequence of several. -/

open Sys2Proof Sys2Proof.Machine

/-! ## Encoding -/

/-- Rules R82, R83, R89: the decoder reads every command back from the word the encoder gives it, every operand at every value. -/
def Obligations.DecodeOfEncode : Prop := ∀ i : Instr, decode (encode i) = .ok i

/-- Rules R82, R85: a word that decodes is the word of what it decodes to, so no bit of a command word is dropped. -/
def Obligations.EncodeOfDecode : Prop := ∀ (w : CmdWord) (i : Instr), decode w = .ok i → encode i = w

/-- Rule R84: the opcode map decides which command a word is. -/
def Obligations.OpcodeMapDecides : Prop :=
  ∀ (w : CmdWord) (m : String),
    (∃ i, decode w = .ok i ∧ i.mnemonic = m) ↔ ∃ row ∈ opcodeMap, row.mnemonic = m ∧ w &&& row.mask = row.pattern

/-- Rules R85, R86: an unassigned opcode, or an assigned one with a reserved bit set (no row of the map matches), raises
`Fault(ILLEGAL)` with no other effect. -/
def Obligations.IllegalWordFaults : Prop :=
  ∀ (s : State) (w : CmdWord) (rest : List HostInput), s.inbox = .cmd w :: rest → s.fault = 0 →
    (w.toNat / 4096 = 0 ∨ w.toNat / 4096 = 14 ∨ w.toNat / 4096 = 15 ∨ ∀ row ∈ opcodeMap, w &&& row.mask ≠ row.pattern) →
    step s = .next { s with inbox := rest, fault := 1 }

/-- Rule R87: the three kinds of word, told by the commands they encode: a legal command's word, the word of a command with an operand
out of range, and every other word. -/
def Obligations.WordClassesPartition : Prop :=
  ∀ w : CmdWord,
    (classify w = .legal ↔ ∃ i : Instr, i.wellFormed = true ∧ encode i = w) ∧
    (classify w = .rangeFault ↔ ∃ i : Instr, i.wellFormed = false ∧ encode i = w) ∧
    (classify w = .illegal ↔ ∀ i : Instr, encode i ≠ w)

/-- Words of spec/95_test_vectors.md section 2.1, one for each format. -/
def Obligations.SampleWordsDecode : Prop :=
  decode 0x7000 = .ok .shin ∧ decode 0x8105 = .ok (.shout .msbFirst 5) ∧ decode 0x9121 = .ok (.setled 1 2 true) ∧
  decode 0xA4A5 = .ok (.setrow 4 0xA5) ∧ decode 0xB230 = .ok (.getbtn 2 3) ∧ decode 0xC201 = .ok (.listen 2 true) ∧
  decode 0xD100 = .ok (.getcfg 1)

/-- Rule R90: the word of a line is its row's `match` value with each operand shifted to its field. -/
def Obligations.AssembledWordIsEncoding : Prop := ∀ i : Instr, assembleWord i = encode i

/-- Rule R175: the four fields of each event word. -/
def Obligations.EventWordFields : Prop :=
  ∀ (r : Row) (c : Col) (held : Millis) (ch : Chan) (v : BitVec 10),
    ((eventWord (.down r c)).extractLsb' 38 2 = 1 ∧ ((eventWord (.down r c)).extractLsb' 35 3).toNat = r.val ∧
      ((eventWord (.down r c)).extractLsb' 32 3).toNat = c.val ∧ (eventWord (.down r c)).extractLsb' 0 32 = 0) ∧
    ((eventWord (.up r c held)).extractLsb' 38 2 = 2 ∧ ((eventWord (.up r c held)).extractLsb' 35 3).toNat = r.val ∧
      ((eventWord (.up r c held)).extractLsb' 32 3).toNat = c.val ∧ (eventWord (.up r c held)).extractLsb' 0 32 = held) ∧
    ((eventWord (.pot ch v)).extractLsb' 38 2 = 3 ∧ ((eventWord (.pot ch v)).extractLsb' 35 3).toNat = ch.val ∧
      (eventWord (.pot ch v)).extractLsb' 32 3 = 0 ∧ ((eventWord (.pot ch v)).extractLsb' 0 32).toNat = v.toNat)

/-- Rule R175: two events with one word are one event, so a consumer reads back what happened. -/
def Obligations.EventWordInjective : Prop := ∀ e f : Event, eventWord e = eventWord f → e = f

/-! ## Steps, faults and reset -/

/-- Rules R81, R88, R89: where GSIO is not faulted and the word the host issues decodes to a command, legal operands or not, the step
is that command's meaning on the state from which the input has been taken. -/
def Obligations.StepRunsDecodedCommand : Prop :=
  ∀ (s : State) (w : CmdWord) (rest : List HostInput) (i : Instr), s.inbox = .cmd w :: rest → s.fault = 0 → decode w = .ok i →
    step s = exec i { s with inbox := rest }

/-- Rule R173: a faulted GSIO takes the word and changes nothing, not even `fault`, and only RESET leaves the faulted state. -/
def Obligations.FaultedRefusesCommands : Prop :=
  ∀ (s : State) (w : CmdWord) (k : Nat) (rest : List HostInput), s.fault ≠ 0 →
    (s.inbox = .cmd w :: rest → step s = .next { s with inbox := rest }) ∧
    (s.inbox = .cmdUntaken w k :: rest → step s = .next { s with inbox := rest }) ∧
    (∀ t, step s = .next t →
      t.fault = s.fault ∨ (∃ more, s.inbox = .reset :: more) ∨ ∃ word n more, s.inbox = .cmdThenReset word n :: more)

/-- Rule R172: the five causes of `Fault(RANGE)`, each with no other effect, and no other command sets a fault bit. -/
def Obligations.RangeFaultsComplete : Prop :=
  (∀ (s : State) (row col : BitVec 3) (val : Bool) (value : Byte), 4 < row.toNat →
    exec (.setled row col val) s = .next { s with fault := s.fault ||| 2 } ∧
    exec (.setrow row value) s = .next { s with fault := s.fault ||| 2 } ∧
    exec (.getbtn row col) s = .next { s with fault := s.fault ||| 2 }) ∧
  (∀ (s : State) (en : Bool), exec (.listen 3 en) s = .next { s with fault := s.fault ||| 2 }) ∧
  (∀ s : State, exec (.getcfg 3) s = .next { s with fault := s.fault ||| 2 }) ∧
  (∀ (i : Instr) (s t : State), i.wellFormed = true → exec i s = .next t → t.fault = s.fault)

/-- Rule R170: no command started with legal operands can fail, whatever the pins, the samples and the clock answer. -/
def Obligations.LegalCommandsComplete : Prop :=
  ∀ (i : Instr) (s : State), i.wellFormed = true → ∃ t, exec i s = .next t ∧ t.fault = s.fault

/-- Rule R188: with no command issued GSIO is idle, its pins held. -/
def Obligations.IdleChangesNothing : Prop := ∀ s : State, s.inbox = [] → step s = .next s

/-- Rule R46: the state after reset, element by element, whatever level asserts the button latch. -/
def Obligations.ResetState : Prop :=
  (∀ r : Row, State.reset.btnCur[r.val] = 0 ∧ State.reset.btnPrev[r.val] = 0 ∧ State.reset.led[r.val] = 0 ∧
    ∀ c : Col, State.reset.pressTs[r.val][c.val] = 0) ∧
  (∀ ch : Chan, State.reset.potQ[ch.val] = 0) ∧
  State.reset.lastRead = 0 ∧ State.reset.frame = 0 ∧ State.reset.lsn = 0 ∧ State.reset.fault = 0 ∧ State.reset.result = 0 ∧
  State.reset.pin.btnClk = false ∧ State.reset.pin.ledData = false ∧ State.reset.pin.ledClk = false ∧
  State.reset.pin.sel = #v[false, false, false] ∧ State.reset.pin.btnLatch = !State.reset.shiftLevel ∧
  State.reset.pin.ledLatch = true

/-- Rules R200, R201: RESET gives every element of `S` its reset value, faulted or not.
The model's choices: that the history continues unchanged is log entry 4 (DEDUCED, unsafe for a claim about the history across a RESET);
that the strap, the answers to come and the further inputs, fields of the model's own, stay is log entries 1, 2 and 3. -/
def Obligations.ResetRestoresState : Prop :=
  ∀ (s : State) (rest : List HostInput), s.inbox = .reset :: rest →
    ∃ t, step s = .next t ∧
      t.btnCur = Vector.replicate 5 0 ∧ t.btnPrev = Vector.replicate 5 0 ∧ t.pressTs = Vector.replicate 5 (Vector.replicate 8 0) ∧
      t.lastRead = 0 ∧ t.led = Vector.replicate 5 0 ∧ t.frame = 0 ∧ t.potQ = Vector.replicate 6 0 ∧ t.lsn = 0 ∧ t.fault = 0 ∧
      t.result = 0 ∧
      t.pin = { btnClk := false, btnLatch := !s.shiftLevel, ledData := false, ledClk := false, ledLatch := true,
                sel := #v[false, false, false] } ∧
      t.shiftLevel = s.shiftLevel ∧ t.oracle = s.oracle ∧ t.inbox = rest ∧ t.hist = s.hist

/-- Rules R200, R221: RESET in the middle of a command leaves the reset state, and the world has seen the command's first events only.
The model's choices: that it falls after a number of history events is log entry 3; that the history continues across it is log entry 4
(DEDUCED, unsafe for a claim about the history across a RESET); that the strap and the answers to come are kept is log entries 1
and 2. -/
def Obligations.ResetAbandonsCommand : Prop :=
  ∀ (s u : State) (w : CmdWord) (n : Nat) (rest : List HostInput), s.inbox = .cmdThenReset w n :: rest →
    step { s with inbox := .cmd w :: rest } = .next u →
    ∃ t, step s = .next t ∧ t.hist = s.hist ++ (newEvents s u).take n ∧ Oracle.Explains s.oracle ((newEvents s u).take n) t.oracle ∧
      { t with hist := [], oracle := Oracle.unscripted, inbox := [] } = State.resetAt s.shiftLevel ∧ t.inbox = rest

/-- Rule R177, entry U10: a command that offers an event its consumer never takes never completes; one that offers no such event is
unaffected. That the model says so by a fault of its own is log entry 5. -/
def Obligations.UntakenEventStalls : Prop :=
  ∀ (s u : State) (w : CmdWord) (k : Nat) (rest : List HostInput), s.inbox = .cmdUntaken w k :: rest →
    step { s with inbox := .cmd w :: rest } = .next u →
    (k < (deliveredWords (newEvents s u)).length → step s = .fault .consumerStalled) ∧
    ((deliveredWords (newEvents s u)).length ≤ k → step s = .next u)

/-! ## The codec -/

/-- Rules R100, R101: SHIN returns the byte of the next eight samples, first sample in bit 0, and changes the clock pin, `RESULT` and
the history alone. -/
def Obligations.ShinReturnsSampledByte : Prop :=
  ∀ s : State,
    exec .shin s = .next { s with
      result := nextByte s.oracle
      pin := { s.pin with btnClk := true }
      oracle := s.oracle.drawBtnData 8
      hist := s.hist ++ shiftInEvents (nextByte s.oracle) ++ [.res (nextByte s.oracle)] } ∧
    ∀ k, k < 8 → (nextByte s.oracle).getLsbD k = s.oracle.btnDataAt k

/-- Rules R103, R104: SHOUT drives eight data bits, least or most significant first, a clock pulse after each, and nothing else. -/
def Obligations.ShoutSendsByte : Prop :=
  ∀ (s : State) (order : BitOrder) (value : Byte),
    ∃ t, exec (.shout order value) s = .next t ∧
      t = { s with
        pin := { s.pin with ledData := (match order with | .lsbFirst => value.getLsbD 7 | .msbFirst => value.getLsbD 0), ledClk := false }
        hist := s.hist ++ shiftOutEvents order value } ∧
      drivenLevels .ledData (newEvents s t) = (List.range 8).map (fun i =>
        match order with | .lsbFirst => value.getLsbD i | .msbFirst => value.getLsbD (7 - i)) ∧
      drivenLevels .ledClk (newEvents s t) = [true, false, true, false, true, false, true, false, true, false, true, false, true, false,
        true, false]

/-! ## Buttons -/

/-- Rules R111, R112, R113, R117: within 10 ms of the last accepted read, modulo 2^32, RDBTN samples the clock and does nothing else;
from 10 ms on it scans: every field of the next state. -/
def Obligations.RdbtnGuardedScan : Prop :=
  ∀ s : State, exec .rdbtn s = .next (
    if (s.oracle.nowAt 0 - s.lastRead).toNat < 10
    then { s with oracle := s.oracle.drawNow 1, hist := s.hist ++ [.t (s.oracle.nowAt 0)] }
    else scannedState s true)

/-- Rule R118: INIT scans without a guard and delivers no event, whatever the listeners. -/
def Obligations.InitScansSilently : Prop :=
  ∀ s : State, exec .init s = .next (scannedState s false) ∧
    ∀ t, exec .init s = .next t → deliveredWords (newEvents s t) = []

/-- Rule R56: sample `n` of an accepted scan, be it INIT's, RDBTN's or READ's, is the button at row `4 - n div 8`, column `n mod 8`. -/
def Obligations.ButtonFrameOrder : Prop :=
  ∀ (s : State) (i : Instr), s.Scans i → ∃ t, exec i s = .next t ∧
    ∀ n : Fin 40, (t.btnCur[4 - n.val / 8]'(by omega)).getLsbD (n.val % 8) = s.oracle.btnDataAt n.val

/-- Rule R119: GETBTN returns the current boolean of a cell, and a row of 5, 6 or 7 raises `Fault(RANGE)`. -/
def Obligations.GetbtnReturnsCell : Prop :=
  (∀ (s : State) (r : Row) (c : Col),
    exec (.getbtn (BitVec.ofNat 3 r.val) (BitVec.ofNat 3 c.val)) s = .next { s with
      result := if s.btnCur[r.val].getLsbD c.val then 1 else 0
      hist := s.hist ++ [.res (if s.btnCur[r.val].getLsbD c.val then 1 else 0)] }) ∧
  (∀ (s : State) (row col : BitVec 3), 4 < row.toNat → exec (.getbtn row col) s = .next { s with fault := s.fault ||| 2 })

/-- Rules R113, R116 (and R121 for two successive accepted reads): a press and then a release of a cell give exactly one down event and
exactly one up event about it, with the time between the two samples. -/
def Obligations.PressThenReleaseReported : Prop :=
  ∀ (s : State) (r : Row) (c : Col), s.lsn.getLsbD 0 = true → s.lsn.getLsbD 1 = true → s.btnCur[r.val].getLsbD c.val = false →
    10 ≤ (s.oracle.nowAt 0 - s.lastRead).toNat → 10 ≤ (s.oracle.nowAt 1 - s.oracle.nowAt 0).toNat →
    s.oracle.btnDataAt (8 * (4 - r.val) + c.val) = true → s.oracle.btnDataAt (40 + (8 * (4 - r.val) + c.val)) = false →
    ∃ t u, exec .rdbtn s = .next t ∧ exec .rdbtn t = .next u ∧
      cellWords r c (newEvents s t) = [eventWord (.down r c)] ∧
      cellWords r c (newEvents t u) = [eventWord (.up r c (s.oracle.nowAt 1 - s.oracle.nowAt 0))]

/-! ## LEDs -/

/-- Rules R131, R132: WRLED frames five bytes with the latch and changes the three LED pins and the history alone. -/
def Obligations.WrledSendsFrame : Prop :=
  ∀ s : State, exec .wrled s = .next { s with pin := ledWrittenPins s, hist := s.hist ++ ledWriteEvents s }

/-- Rule R133: WRITE sends what WRLED sends, by the parity before, and then advances the frame counter modulo 256. -/
def Obligations.WriteAdvancesFrame : Prop :=
  ∀ s : State, exec .write s = .next { s with
    pin := ledWrittenPins s
    frame := BitVec.ofNat 8 ((s.frame.toNat + 1) % 256)
    hist := s.hist ++ ledWriteEvents s }

/-- Rule R57: data bit `n` of the 40 of an LED write, WRLED's or WRITE's, is the LED at row `n div 8`, column `7 - n mod 8`, on an even
frame, and 0 on an odd one. -/
def Obligations.LedFrameOrder : Prop :=
  ∀ (s : State) (i : Instr), i = .wrled ∨ i = .write → ∃ t, exec i s = .next t ∧
    drivenLevels .ledData (newEvents s t) = List.ofFn fun n : Fin 40 =>
      (s.frame.toNat % 2 == 0) && (s.led[n.val / 8]'(by omega)).getLsbD (n.val % 8)

/-- Rule R134: of two successive WRITEs the one on the even frame shows the stored pattern, the other 40 zeros. -/
def Obligations.WritesBlink : Prop :=
  ∀ s : State, ∃ t u, exec .write s = .next t ∧ exec .write t = .next u ∧
    (s.frame.toNat % 2 = 0 → drivenLevels .ledData (newEvents t u) = List.replicate 40 false) ∧
    (s.frame.toNat % 2 = 1 → drivenLevels .ledData (newEvents s t) = List.replicate 40 false) ∧
    (if s.frame.toNat % 2 = 0 then drivenLevels .ledData (newEvents s t) else drivenLevels .ledData (newEvents t u)) =
      List.ofFn fun n : Fin 40 => (s.led[n.val / 8]'(by omega)).getLsbD (n.val % 8)

/-- Rule R135: SETLED writes bit `7-col` of one row's bitmask and nothing else; a row of 5, 6 or 7 raises `Fault(RANGE)`. -/
def Obligations.SetledWritesOneBit : Prop :=
  (∀ (s : State) (r : Row) (c : Col) (val : Bool), ∃ v : Byte,
    exec (.setled (BitVec.ofNat 3 r.val) (BitVec.ofNat 3 c.val) val) s = .next { s with led := s.led.set r.val v } ∧
    ∀ k, k < 8 → v.getLsbD k = if k = 7 - c.val then val else s.led[r.val].getLsbD k) ∧
  (∀ (s : State) (row col : BitVec 3) (val : Bool), 4 < row.toNat →
    exec (.setled row col val) s = .next { s with fault := s.fault ||| 2 })

/-- Rule R136: SETROW stores one row's byte as given and nothing else; a row of 5, 6 or 7 raises `Fault(RANGE)`. -/
def Obligations.SetrowStoresByte : Prop :=
  (∀ (s : State) (r : Row) (value : Byte),
    exec (.setrow (BitVec.ofNat 3 r.val) value) s = .next { s with led := s.led.set r.val value }) ∧
  (∀ (s : State) (row : BitVec 3) (value : Byte), 4 < row.toNat →
    exec (.setrow row value) s = .next { s with fault := s.fault ||| 2 })

/-! ## Potentiometers -/

/-- Rules R145, R146, R153: RDPOT reads the six channels in order: every field of the next state. -/
def Obligations.RdpotPass : Prop := ∀ s : State, exec .rdpot s = .next (potPassState s)

/-- Rules R147, R149 and the formula of R148: the reported value and the bucket of a raw sample. -/
def Obligations.PotArithmetic : Prop :=
  ∀ raw : Raw,
    (raw.toNat < 25 → clamp raw = 25) ∧ (1000 < raw.toNat → clamp raw = 1000) ∧
    (25 ≤ raw.toNat → raw.toNat ≤ 1000 → clamp raw = raw.toNat) ∧
    (potValue raw).toNat = (clamp raw - 25) * 1023 / 975 ∧
    (potBucket raw).toNat = (potValue raw).toNat / 8

/-- Rule R148: the end points, a strictly increasing map of the band (so no two adjacent inputs give one output), an output never
produced, and no product over 997425. -/
def Obligations.RescaleFacts : Prop :=
  rescale 25 = 0 ∧ rescale 1000 = 1023 ∧
  (∀ c d : Nat, 25 ≤ c → c < d → d ≤ 1000 → (rescale c).toNat < (rescale d).toNat) ∧
  (∀ c : Nat, 25 ≤ c → c ≤ 1000 → (c - 25) * 1023 ≤ 997425 ∧ (rescale c).toNat = (c - 25) * 1023 / 975) ∧
  (∃ v : BitVec 10, ∀ c : Nat, 25 ≤ c → c ≤ 1000 → rescale c ≠ v)

/-- Rule R150: a second pass with the same samples delivers nothing and changes no stored bucket. -/
def Obligations.SecondPassSilent : Prop :=
  ∀ s : State, (∀ ch : Chan, s.oracle.ainAt (6 + ch.val) = s.oracle.ainAt ch.val) →
    ∃ t u, exec .rdpot s = .next t ∧ exec .rdpot t = .next u ∧ deliveredWords (newEvents t u) = [] ∧ u.potQ = t.potQ

/-! ## The coordinator -/

/-- Rule R161: READ is exactly RDBTN followed by RDPOT, throttled or not. -/
def Obligations.ReadIsButtonsThenPots : Prop :=
  ∀ s : State, ∃ m t, exec .rdbtn s = .next m ∧ exec .rdpot m = .next t ∧ exec .read s = .next t

/-- Rule R163: LISTEN writes one listener enable and nothing else; slot 3 raises `Fault(RANGE)`. -/
def Obligations.ListenWritesOneEnable : Prop :=
  (∀ (s : State) (j : Slot) (en : Bool), ∃ v : BitVec 3,
    exec (.listen (BitVec.ofNat 2 j.val) en) s = .next { s with lsn := v } ∧
    ∀ k, k < 3 → v.getLsbD k = if k = j.val then en else s.lsn.getLsbD k) ∧
  (∀ (s : State) (en : Bool), exec (.listen 3 en) s = .next { s with fault := s.fault ||| 2 })

/-- Rule R164: GETCFG returns 5, 8 or 6 and changes `RESULT` and the history alone; index 3 raises `Fault(RANGE)`. -/
def Obligations.GetcfgReturnsConstants : Prop :=
  ∀ s : State,
    exec (.getcfg 0) s = .next { s with result := 5, hist := s.hist ++ [.res 5] } ∧
    exec (.getcfg 1) s = .next { s with result := 8, hist := s.hist ++ [.res 8] } ∧
    exec (.getcfg 2) s = .next { s with result := 6, hist := s.hist ++ [.res 6] } ∧
    exec (.getcfg 3) s = .next { s with fault := s.fault ||| 2 }

/-! ## Every command -/

/-- Rules R21 to R26, R30, R31, R33 to R36: which commands write each register and each pin. -/
def Obligations.WritersOfEachRegister : Prop :=
  ∀ (i : Instr) (s t : State), exec i s = .next t →
    (t.btnCur ≠ s.btnCur ∨ t.btnPrev ≠ s.btnPrev ∨ t.pressTs ≠ s.pressTs ∨ t.lastRead ≠ s.lastRead ∨ t.pin.btnLatch ≠ s.pin.btnLatch →
      i = .init ∨ i = .rdbtn ∨ i = .read) ∧
    (t.led ≠ s.led → (∃ row col val, i = .setled row col val) ∨ ∃ row value, i = .setrow row value) ∧
    (t.frame ≠ s.frame → i = .write) ∧
    (t.potQ ≠ s.potQ ∨ t.pin.sel ≠ s.pin.sel → i = .rdpot ∨ i = .read) ∧
    (t.lsn ≠ s.lsn → ∃ slot en, i = .listen slot en) ∧
    (t.result ≠ s.result → i = .shin ∨ (∃ row col, i = .getbtn row col) ∨ ∃ k, i = .getcfg k) ∧
    (t.fault ≠ s.fault → i.wellFormed = false) ∧
    (t.pin.btnClk ≠ s.pin.btnClk → i = .shin ∨ i = .init ∨ i = .rdbtn ∨ i = .read) ∧
    (t.pin.ledData ≠ s.pin.ledData ∨ t.pin.ledClk ≠ s.pin.ledClk → i = .wrled ∨ i = .write ∨ ∃ order value, i = .shout order value) ∧
    (t.pin.ledLatch ≠ s.pin.ledLatch → i = .wrled ∨ i = .write) ∧
    t.shiftLevel = s.shiftLevel ∧ t.inbox = s.inbox

/-- Rules R178, R180: only RDBTN, RDPOT and READ deliver events, at most 40, 6 and 46. -/
def Obligations.EventSourcesComplete : Prop :=
  ∀ (i : Instr) (s t : State), exec i s = .next t →
    (deliveredWords (newEvents s t) ≠ [] → i = .rdbtn ∨ i = .rdpot ∨ i = .read) ∧
    (i = .rdbtn → (deliveredWords (newEvents s t)).length ≤ 40) ∧
    (i = .rdpot → (deliveredWords (newEvents s t)).length ≤ 6) ∧
    (i = .read → (deliveredWords (newEvents s t)).length ≤ 46)

/-- Rule R220: how many history events each command appends besides the event words, and the 80 microseconds of an accepted scan, be it
INIT's, RDBTN's or READ's. -/
def Obligations.HistoryEventCounts : Prop :=
  ∀ (i : Instr) (s t : State), i.wellFormed = true → exec i s = .next t →
    ((newEvents s t).length = (deliveredWords (newEvents s t)).length +
      match i with
      | .shin => 33
      | .shout _ _ => 24
      | .rdbtn => if (s.oracle.nowAt 0 - s.lastRead).toNat < 10 then 1 else 163
      | .init => 163
      | .rdpot => 24
      | .read => if (s.oracle.nowAt 0 - s.lastRead).toNat < 10 then 25 else 187
      | .wrled => 122
      | .write => 122
      | .setled _ _ _ => 0
      | .setrow _ _ => 0
      | .listen _ _ => 0
      | .getbtn _ _ => 1
      | .getcfg _ => 1) ∧
    (s.Scans i → delayTotal (newEvents s t) = 80)

/-- Rules R9, R62: a step appends to the history and alters nothing already in it. For a step whose input is RESET, idle or in the
middle of a command, this is the model's choice: log entry 4 (the history continues across RESET; DEDUCED, unsafe for such a claim). -/
def Obligations.HistoryOnlyGrows : Prop := ∀ s t : State, step s = .next t → s.hist <+: t.hist

/-- Rules R11, R13, R14: every answer a step records is the oracle's, each drawn once and in order, and nothing else is drawn. For a
step whose input is RESET this is the model's choice: the moment of RESET inside a command is log entry 3, that RESET keeps the answers
to come is log entry 2, that it keeps the history is log entry 4 (DEDUCED, unsafe for a claim about the history across a RESET). -/
def Obligations.AnswersAreTheOracles : Prop :=
  ∀ s t : State, step s = .next t → Oracle.Explains s.oracle (newEvents s t) t.oracle

/-- Rules R10, R36: after a command each pin has the level last written to it, and a pin not written keeps its level. -/
def Obligations.PinsFollowHistory : Prop :=
  ∀ (i : Instr) (s t : State), exec i s = .next t → t.pin = s.pin.afterEvents (newEvents s t)

/-- Rules R36, R40: no command's behaviour depends on the level a pin already has or on the history. -/
def Obligations.PinsAndHistoryNeverRead : Prop :=
  ∀ (i : Instr) (s t : State) (p : Pins) (h : List HistoryEvent), exec i s = .next t →
    exec i { s with pin := p, hist := h } =
      .next { t with pin := p.afterEvents (newEvents s t), hist := h ++ newEvents s t }

/-- Rule R68 (and R43.3, R137): READ never reads the LED state or the frame counter. -/
def Obligations.ReadIgnoresLeds : Prop :=
  ∀ (s t : State) (led : Vector Byte 5) (frame : Byte), exec .read s = .next t →
    exec .read { s with led := led, frame := frame } = .next { t with led := led, frame := frame }

/-- Decision D6: the level that asserts the button latch shows on that pin alone; every register, every sample and every event are
the same for both levels. -/
def Obligations.LatchLevelShowsOnLatchAlone : Prop :=
  ∀ (i : Instr) (s t : State) (level : Bool), exec i s = .next t →
    ∃ u, exec i { s with shiftLevel := level } = .next u ∧
      { u with shiftLevel := t.shiftLevel, pin := { u.pin with btnLatch := t.pin.btnLatch }, hist := t.hist } = t ∧
      (newEvents s u).filter (fun h => h ≠ .w .btnLatch true ∧ h ≠ .w .btnLatch false) =
        (newEvents s t).filter (fun h => h ≠ .w .btnLatch true ∧ h ≠ .w .btnLatch false)

/-! ## Invariants -/

/-- The three invariants hold at reset. -/
def Obligations.ResetMeetsInvariants : Prop :=
  State.reset.Rested ∧ State.reset.EventsProduced ∧ State.reset.PressesRecorded

/-- Rules R36, R59, R113, R131, R173: between commands the lines rest, a channel 0 to 5 is selected, at most one fault bit is set. -/
def Obligations.StepKeepsLinesRested : Prop := ∀ s t : State, s.Rested → step s = .next t → t.Rested

/-- Rule R175: every event word ever delivered is one the rule gives a meaning; kind 0 is never produced. -/
def Obligations.StepKeepsEventsProduced : Prop := ∀ s t : State, s.EventsProduced → step s = .next t → t.EventsProduced

/-- Rules R23, R113, R116: the timestamp of every cell now pressed is a time the clock gave, so no hold time is measured from a reset
value (decision D30). -/
def Obligations.StepKeepsPressesRecorded : Prop := ∀ s t : State, s.PressesRecorded → step s = .next t → t.PressesRecorded

/-! ## Runs -/

/-- Rules R170, R222: a run of legal commands from a state without a fault ends, all its words executed, and is successful. That it ends
is the model's choice: the input `cmd` says that the consumer takes every event (log entry 5: DESIGN CHOICE, unsafe), where rule R222
gives a run that waits at an Emit for ever no end. -/
def Obligations.LegalRunsSucceed : Prop :=
  ∀ (s : State) (words : List CmdWord), s.fault = 0 → (∀ w ∈ words, classify w = .legal) →
    successful (runProgram s words) = true

/-- Rules R171, R173: at the first word that is no legal command everything before is complete, one bit of `fault` is set, and nothing
after it has any effect. The run's inputs are `cmd`, by which the consumer takes every event (log entry 5). -/
def Obligations.FirstBadWordStopsRun : Prop :=
  ∀ (s t : State) (before after : List CmdWord) (w : CmdWord), s.fault = 0 → runProgram s before = .next t → t.fault = 0 →
    classify w ≠ .legal →
    runProgram s (before ++ w :: after) =
      .next { t with fault := if classify w = .illegal then 1 else 2 }

/-! ## With the reference environment (rules R70 to R73, informative: log entry 6) -/

/-- Rules R56, R71: an accepted scan whose samples the button cascade gives stores the buttons as they were held at the moment the
latch was asserted, whatever the buttons, the potentiometers and the clock do before and after it. -/
def Obligations.ScanReadsHeldButtons : Prop :=
  ∀ (v m v' : Env) (s t : State) (i : Instr) (before after : List WorldEvent),
    v.shiftLevel = s.shiftLevel → s.Scans i → exec i s = .next t →
    gsioPart (before ++ .seen (.w .btnLatch s.shiftLevel) :: after) = seenEvents (newEvents s t) →
    v.follow before = some m → m.follow (.seen (.w .btnLatch s.shiftLevel) :: after) = some v' →
    ∀ (r : Row) (c : Col), t.btnCur[r.val].getLsbD c.val = m.physBtn[r.val][c.val]

/-- Rules R57, R72: an LED write lights the LEDs whose bits are stored on an even frame, and none on an odd one, whatever happens in the
world meanwhile. -/
def Obligations.LedWriteShowsMatrix : Prop :=
  ∀ (v : Env) (s : State) (i : Instr), v.pin.ledClk = false → i = .wrled ∨ i = .write →
    ∃ t, exec i s = .next t ∧ ∀ timeline, gsioPart timeline = seenEvents (newEvents s t) →
      ∃ v', v.follow timeline = some v' ∧
        ∀ (r : Row) (c : Col), v'.lout[r.val][c.val] = (s.frame.toNat % 2 == 0 && s.led[r.val].getLsbD (7 - c.val))

/-- Rules R59, R73, R146: a pot pass whose samples the converter gives, no potentiometer turned meanwhile, stores the bucket of each. -/
def Obligations.PotPassReadsPots : Prop :=
  ∀ (v v' : Env) (s t : State) (i : Instr) (timeline : List WorldEvent), i = .rdpot ∨ i = .read → exec i s = .next t →
    gsioPart timeline = seenEvents (newEvents s t) → (∀ ch raw, WorldEvent.turn ch raw ∉ timeline) → v.follow timeline = some v' →
    ∀ ch : Chan, t.potQ[ch.val] = potBucket v.physPot[ch.val]

/-- Rules R10, R36, R200, R201: the environment sees on its pins the levels GSIO drives, after every step, a RESET included. That a RESET
shows to it as a change of levels which no history event records is the model's choice (log entry 14); the moment of a RESET inside a
command is log entry 3. -/
def Obligations.EnvironmentSeesPins : Prop :=
  ∀ (v v' : Env) (s t : State) (timeline : List WorldEvent), v.shiftLevel = s.shiftLevel → v.pin = s.pin → step s = .next t →
    gsioPart timeline = stepEvents s t → v.follow timeline = some v' → v'.shiftLevel = t.shiftLevel ∧ v'.pin = t.pin

/-- Rule R201: RESET while idle leaves the LED cascade what it held and the LEDs what they showed, the button cascade in parallel
capture, and the multiplexer on channel 0. That the devices take the reset levels without a shift or a transfer is log entry 14. -/
def Obligations.ResetLeavesCascades : Prop :=
  ∀ (v : Env) (s : State) (rest : List HostInput), s.inbox = .reset :: rest →
    ∃ t, step s = .next t ∧ ∀ timeline, gsioPart timeline = stepEvents s t →
      ∃ v', v.follow timeline = some v' ∧ v'.lsr = v.lsr ∧ v'.lout = v.lout ∧ v'.pin.btnLatch = (!v'.shiftLevel) ∧
        v'.btnBit = v'.physBtn[4][0] ∧ v'.pin.selected = 0

/-- Rule R73: along a timeline the clock never decreases, and every time `NowMs()` answers is the clock's, modulo 2^32, at that moment. -/
def Obligations.ClockNeverDecreases : Prop :=
  ∀ (v v' : Env) (before after : List WorldEvent) (ms : Millis), v.follow (before ++ .seen (.t ms) :: after) = some v' →
    ∃ m, v.follow before = some m ∧ v.clockMs ≤ m.clockMs ∧ ms.toNat = m.clockMs % 2 ^ 32 ∧ m.clockMs ≤ v'.clockMs
end

