-- ==== Sys2Proof/Laws/Bits.lean ====
section
/-! SUPPORT. The bit operations: writing one bit, the byte of eight answers, row and column fields. -/

namespace Sys2Proof.Machine

theorem getLsbD_setBit {n : Nat} (v : BitVec n) (i j : Nat) (b : Bool) :
    (setBit v i b).getLsbD j = if i = j ∧ j < n then b else v.getLsbD j := by
  unfold setBit
  by_cases hj : j < n
  · cases b <;> by_cases h : i = j <;> simp [hj, h, Ne.symm (a := i) (b := j)]
  · cases b <;> simp [BitVec.getLsbD_of_ge _ _ (Nat.le_of_not_lt hj), hj]

theorem byteOf_congr {f g : Nat → Bool} (h : ∀ i, i < 8 → f i = g i) : byteOf f = byteOf g := by
  simp [byteOf, List.range_succ, h]

/-- A bit of the number whose binary digits, lowest first, are those of a list. -/
theorem testBit_foldr_digits (l : List Bool) (i : Nat) :
    (l.foldr (fun (b : Bool) n => b.toNat + 2 * n) 0).testBit i = l.getD i false := by
  induction l generalizing i with
  | nil => simp
  | cons b l ih =>
    cases i with
    | zero => cases b <;> simp
    | succ i =>
      have half (m : Nat) : (b.toNat + 2 * m) / 2 = m := by
        have := b.toNat_lt; omega
      rw [List.foldr_cons, Nat.testBit_succ, half, ih, List.getD_cons_succ]

/-- Answer `i` is bit `i` of the byte (rules R53, R100). -/
theorem getLsbD_byteOf (f : Nat → Bool) (i : Nat) (h : i < 8) : (byteOf f).getLsbD i = f i := by
  have digits := testBit_foldr_digits ((List.range 8).map f) i
  rw [List.foldr_map] at digits
  rw [byteOf, BitVec.getLsbD_ofNat, digits]
  simp [h, List.getD_eq_getElem?_getD]

theorem byteOf_getLsbD (v : Byte) : byteOf v.getLsbD = v := by
  apply BitVec.eq_of_getLsbD_eq
  intro i h
  exact getLsbD_byteOf _ i h

theorem rowOf_eq_some {row : BitVec 3} {r : Row} : rowOf row = some r ↔ row.toNat = r.val := by
  unfold rowOf
  split
  · simp [Fin.ext_iff]
  · simp; omega

theorem rowOf_eq_none {row : BitVec 3} : rowOf row = none ↔ 4 < row.toNat := by
  unfold rowOf
  split <;> simp <;> omega

theorem slotOf_eq_some {slot : BitVec 2} {j : Slot} : slotOf slot = some j ↔ slot.toNat = j.val := by
  unfold slotOf
  split
  · simp [Fin.ext_iff]
  · simp; omega

theorem slotOf_eq_none {slot : BitVec 2} : slotOf slot = none ↔ slot.toNat = 3 := by
  unfold slotOf
  split <;> simp <;> omega

theorem rowOf_ofNat (r : Row) : rowOf (BitVec.ofNat 3 r.val) = some r := by
  revert r; decide

theorem colOf_ofNat (c : Col) : colOf (BitVec.ofNat 3 c.val) = c := by
  revert c; decide

theorem slotOf_ofNat (j : Slot) : slotOf (BitVec.ofNat 2 j.val) = some j := by
  revert j; decide

theorem setFault_illegal (fault : BitVec 2) : setFault fault .illegal = fault ||| 1 := by
  revert fault; decide

theorem setFault_range (fault : BitVec 2) : setFault fault .range = fault ||| 2 := by
  revert fault; decide

theorem constOf_eq_none {k : BitVec 2} : constOf k = none ↔ k.toNat = 3 := by
  revert k; decide

end Sys2Proof.Machine
end

