-- ==== Sys2Proof/Laws/State.lean ====
section
/-! SUPPORT. One lemma for each field of State under each named update, so that no proof unfolds a record update; and the same for the
pin latches and the oracle. -/

namespace Sys2Proof.Machine

/-! ### pinWrite -/

@[simp] theorem State.pinWrite_btnCur (s : State) (p : Pin) (b : Bool) : (s.pinWrite p b).btnCur = s.btnCur := rfl

@[simp] theorem State.pinWrite_btnPrev (s : State) (p : Pin) (b : Bool) : (s.pinWrite p b).btnPrev = s.btnPrev := rfl

@[simp] theorem State.pinWrite_pressTs (s : State) (p : Pin) (b : Bool) : (s.pinWrite p b).pressTs = s.pressTs := rfl

@[simp] theorem State.pinWrite_lastRead (s : State) (p : Pin) (b : Bool) : (s.pinWrite p b).lastRead = s.lastRead := rfl

@[simp] theorem State.pinWrite_led (s : State) (p : Pin) (b : Bool) : (s.pinWrite p b).led = s.led := rfl

@[simp] theorem State.pinWrite_frame (s : State) (p : Pin) (b : Bool) : (s.pinWrite p b).frame = s.frame := rfl

@[simp] theorem State.pinWrite_potQ (s : State) (p : Pin) (b : Bool) : (s.pinWrite p b).potQ = s.potQ := rfl

@[simp] theorem State.pinWrite_lsn (s : State) (p : Pin) (b : Bool) : (s.pinWrite p b).lsn = s.lsn := rfl

@[simp] theorem State.pinWrite_fault (s : State) (p : Pin) (b : Bool) : (s.pinWrite p b).fault = s.fault := rfl

@[simp] theorem State.pinWrite_result (s : State) (p : Pin) (b : Bool) : (s.pinWrite p b).result = s.result := rfl

@[simp] theorem State.pinWrite_pin (s : State) (p : Pin) (b : Bool) : (s.pinWrite p b).pin = s.pin.drive p b := rfl

@[simp] theorem State.pinWrite_shiftLevel (s : State) (p : Pin) (b : Bool) : (s.pinWrite p b).shiftLevel = s.shiftLevel := rfl

@[simp] theorem State.pinWrite_oracle (s : State) (p : Pin) (b : Bool) : (s.pinWrite p b).oracle = s.oracle := rfl

@[simp] theorem State.pinWrite_inbox (s : State) (p : Pin) (b : Bool) : (s.pinWrite p b).inbox = s.inbox := rfl

@[simp] theorem State.pinWrite_hist (s : State) (p : Pin) (b : Bool) : (s.pinWrite p b).hist = s.hist ++ [.w p b] := rfl

/-! ### pinRead -/

@[simp] theorem State.pinRead_btnCur (s : State) : s.pinRead.btnCur = s.btnCur := rfl

@[simp] theorem State.pinRead_btnPrev (s : State) : s.pinRead.btnPrev = s.btnPrev := rfl

@[simp] theorem State.pinRead_pressTs (s : State) : s.pinRead.pressTs = s.pressTs := rfl

@[simp] theorem State.pinRead_lastRead (s : State) : s.pinRead.lastRead = s.lastRead := rfl

@[simp] theorem State.pinRead_led (s : State) : s.pinRead.led = s.led := rfl

@[simp] theorem State.pinRead_frame (s : State) : s.pinRead.frame = s.frame := rfl

@[simp] theorem State.pinRead_potQ (s : State) : s.pinRead.potQ = s.potQ := rfl

@[simp] theorem State.pinRead_lsn (s : State) : s.pinRead.lsn = s.lsn := rfl

@[simp] theorem State.pinRead_fault (s : State) : s.pinRead.fault = s.fault := rfl

@[simp] theorem State.pinRead_result (s : State) : s.pinRead.result = s.result := rfl

@[simp] theorem State.pinRead_pin (s : State) : s.pinRead.pin = s.pin := rfl

@[simp] theorem State.pinRead_shiftLevel (s : State) : s.pinRead.shiftLevel = s.shiftLevel := rfl

@[simp] theorem State.pinRead_oracle (s : State) : s.pinRead.oracle = s.oracle.drawBtnData 1 := rfl

@[simp] theorem State.pinRead_inbox (s : State) : s.pinRead.inbox = s.inbox := rfl

@[simp] theorem State.pinRead_hist (s : State) : s.pinRead.hist = s.hist ++ [.r .btnData s.nextBtnData] := rfl

/-! ### delayUs -/

@[simp] theorem State.delayUs_btnCur (s : State) (n : Nat) : (s.delayUs n).btnCur = s.btnCur := rfl

@[simp] theorem State.delayUs_btnPrev (s : State) (n : Nat) : (s.delayUs n).btnPrev = s.btnPrev := rfl

@[simp] theorem State.delayUs_pressTs (s : State) (n : Nat) : (s.delayUs n).pressTs = s.pressTs := rfl

@[simp] theorem State.delayUs_lastRead (s : State) (n : Nat) : (s.delayUs n).lastRead = s.lastRead := rfl

@[simp] theorem State.delayUs_led (s : State) (n : Nat) : (s.delayUs n).led = s.led := rfl

@[simp] theorem State.delayUs_frame (s : State) (n : Nat) : (s.delayUs n).frame = s.frame := rfl

@[simp] theorem State.delayUs_potQ (s : State) (n : Nat) : (s.delayUs n).potQ = s.potQ := rfl

@[simp] theorem State.delayUs_lsn (s : State) (n : Nat) : (s.delayUs n).lsn = s.lsn := rfl

@[simp] theorem State.delayUs_fault (s : State) (n : Nat) : (s.delayUs n).fault = s.fault := rfl

@[simp] theorem State.delayUs_result (s : State) (n : Nat) : (s.delayUs n).result = s.result := rfl

@[simp] theorem State.delayUs_pin (s : State) (n : Nat) : (s.delayUs n).pin = s.pin := rfl

@[simp] theorem State.delayUs_shiftLevel (s : State) (n : Nat) : (s.delayUs n).shiftLevel = s.shiftLevel := rfl

@[simp] theorem State.delayUs_oracle (s : State) (n : Nat) : (s.delayUs n).oracle = s.oracle := rfl

@[simp] theorem State.delayUs_inbox (s : State) (n : Nat) : (s.delayUs n).inbox = s.inbox := rfl

@[simp] theorem State.delayUs_hist (s : State) (n : Nat) : (s.delayUs n).hist = s.hist ++ [.d n] := rfl

/-! ### analogSample -/

@[simp] theorem State.analogSample_btnCur (s : State) : s.analogSample.btnCur = s.btnCur := rfl

@[simp] theorem State.analogSample_btnPrev (s : State) : s.analogSample.btnPrev = s.btnPrev := rfl

@[simp] theorem State.analogSample_pressTs (s : State) : s.analogSample.pressTs = s.pressTs := rfl

@[simp] theorem State.analogSample_lastRead (s : State) : s.analogSample.lastRead = s.lastRead := rfl

@[simp] theorem State.analogSample_led (s : State) : s.analogSample.led = s.led := rfl

@[simp] theorem State.analogSample_frame (s : State) : s.analogSample.frame = s.frame := rfl

@[simp] theorem State.analogSample_potQ (s : State) : s.analogSample.potQ = s.potQ := rfl

@[simp] theorem State.analogSample_lsn (s : State) : s.analogSample.lsn = s.lsn := rfl

@[simp] theorem State.analogSample_fault (s : State) : s.analogSample.fault = s.fault := rfl

@[simp] theorem State.analogSample_result (s : State) : s.analogSample.result = s.result := rfl

@[simp] theorem State.analogSample_pin (s : State) : s.analogSample.pin = s.pin := rfl

@[simp] theorem State.analogSample_shiftLevel (s : State) : s.analogSample.shiftLevel = s.shiftLevel := rfl

@[simp] theorem State.analogSample_oracle (s : State) : s.analogSample.oracle = s.oracle.drawAin 1 := rfl

@[simp] theorem State.analogSample_inbox (s : State) : s.analogSample.inbox = s.inbox := rfl

@[simp] theorem State.analogSample_hist (s : State) : s.analogSample.hist = s.hist ++ [.a s.nextAin] := rfl

/-! ### nowMs -/

@[simp] theorem State.nowMs_btnCur (s : State) : s.nowMs.btnCur = s.btnCur := rfl

@[simp] theorem State.nowMs_btnPrev (s : State) : s.nowMs.btnPrev = s.btnPrev := rfl

@[simp] theorem State.nowMs_pressTs (s : State) : s.nowMs.pressTs = s.pressTs := rfl

@[simp] theorem State.nowMs_lastRead (s : State) : s.nowMs.lastRead = s.lastRead := rfl

@[simp] theorem State.nowMs_led (s : State) : s.nowMs.led = s.led := rfl

@[simp] theorem State.nowMs_frame (s : State) : s.nowMs.frame = s.frame := rfl

@[simp] theorem State.nowMs_potQ (s : State) : s.nowMs.potQ = s.potQ := rfl

@[simp] theorem State.nowMs_lsn (s : State) : s.nowMs.lsn = s.lsn := rfl

@[simp] theorem State.nowMs_fault (s : State) : s.nowMs.fault = s.fault := rfl

@[simp] theorem State.nowMs_result (s : State) : s.nowMs.result = s.result := rfl

@[simp] theorem State.nowMs_pin (s : State) : s.nowMs.pin = s.pin := rfl

@[simp] theorem State.nowMs_shiftLevel (s : State) : s.nowMs.shiftLevel = s.shiftLevel := rfl

@[simp] theorem State.nowMs_oracle (s : State) : s.nowMs.oracle = s.oracle.drawNow 1 := rfl

@[simp] theorem State.nowMs_inbox (s : State) : s.nowMs.inbox = s.inbox := rfl

@[simp] theorem State.nowMs_hist (s : State) : s.nowMs.hist = s.hist ++ [.t s.nextNow] := rfl

/-! ### emit -/

@[simp] theorem State.emit_btnCur (s : State) (ev : Event) : (s.emit ev).btnCur = s.btnCur := rfl

@[simp] theorem State.emit_btnPrev (s : State) (ev : Event) : (s.emit ev).btnPrev = s.btnPrev := rfl

@[simp] theorem State.emit_pressTs (s : State) (ev : Event) : (s.emit ev).pressTs = s.pressTs := rfl

@[simp] theorem State.emit_lastRead (s : State) (ev : Event) : (s.emit ev).lastRead = s.lastRead := rfl

@[simp] theorem State.emit_led (s : State) (ev : Event) : (s.emit ev).led = s.led := rfl

@[simp] theorem State.emit_frame (s : State) (ev : Event) : (s.emit ev).frame = s.frame := rfl

@[simp] theorem State.emit_potQ (s : State) (ev : Event) : (s.emit ev).potQ = s.potQ := rfl

@[simp] theorem State.emit_lsn (s : State) (ev : Event) : (s.emit ev).lsn = s.lsn := rfl

@[simp] theorem State.emit_fault (s : State) (ev : Event) : (s.emit ev).fault = s.fault := rfl

@[simp] theorem State.emit_result (s : State) (ev : Event) : (s.emit ev).result = s.result := rfl

@[simp] theorem State.emit_pin (s : State) (ev : Event) : (s.emit ev).pin = s.pin := rfl

@[simp] theorem State.emit_shiftLevel (s : State) (ev : Event) : (s.emit ev).shiftLevel = s.shiftLevel := rfl

@[simp] theorem State.emit_oracle (s : State) (ev : Event) : (s.emit ev).oracle = s.oracle := rfl

@[simp] theorem State.emit_inbox (s : State) (ev : Event) : (s.emit ev).inbox = s.inbox := rfl

@[simp] theorem State.emit_hist (s : State) (ev : Event) : (s.emit ev).hist = s.hist ++ emitted s.lsn ev := rfl

/-! ### returnResult -/

@[simp] theorem State.returnResult_btnCur (s : State) (v : Byte) : (s.returnResult v).btnCur = s.btnCur := rfl

@[simp] theorem State.returnResult_btnPrev (s : State) (v : Byte) : (s.returnResult v).btnPrev = s.btnPrev := rfl

@[simp] theorem State.returnResult_pressTs (s : State) (v : Byte) : (s.returnResult v).pressTs = s.pressTs := rfl

@[simp] theorem State.returnResult_lastRead (s : State) (v : Byte) : (s.returnResult v).lastRead = s.lastRead := rfl

@[simp] theorem State.returnResult_led (s : State) (v : Byte) : (s.returnResult v).led = s.led := rfl

@[simp] theorem State.returnResult_frame (s : State) (v : Byte) : (s.returnResult v).frame = s.frame := rfl

@[simp] theorem State.returnResult_potQ (s : State) (v : Byte) : (s.returnResult v).potQ = s.potQ := rfl

@[simp] theorem State.returnResult_lsn (s : State) (v : Byte) : (s.returnResult v).lsn = s.lsn := rfl

@[simp] theorem State.returnResult_fault (s : State) (v : Byte) : (s.returnResult v).fault = s.fault := rfl

@[simp] theorem State.returnResult_result (s : State) (v : Byte) : (s.returnResult v).result = v := rfl

@[simp] theorem State.returnResult_pin (s : State) (v : Byte) : (s.returnResult v).pin = s.pin := rfl

@[simp] theorem State.returnResult_shiftLevel (s : State) (v : Byte) : (s.returnResult v).shiftLevel = s.shiftLevel := rfl

@[simp] theorem State.returnResult_oracle (s : State) (v : Byte) : (s.returnResult v).oracle = s.oracle := rfl

@[simp] theorem State.returnResult_inbox (s : State) (v : Byte) : (s.returnResult v).inbox = s.inbox := rfl

@[simp] theorem State.returnResult_hist (s : State) (v : Byte) : (s.returnResult v).hist = s.hist ++ [.res v] := rfl

/-! ### setBtnCur -/

@[simp] theorem State.setBtnCur_btnCur (s : State) (r : Row) (v : Byte) : (s.setBtnCur r v).btnCur = s.btnCur.set r.val v := rfl

@[simp] theorem State.setBtnCur_btnPrev (s : State) (r : Row) (v : Byte) : (s.setBtnCur r v).btnPrev = s.btnPrev := rfl

@[simp] theorem State.setBtnCur_pressTs (s : State) (r : Row) (v : Byte) : (s.setBtnCur r v).pressTs = s.pressTs := rfl

@[simp] theorem State.setBtnCur_lastRead (s : State) (r : Row) (v : Byte) : (s.setBtnCur r v).lastRead = s.lastRead := rfl

@[simp] theorem State.setBtnCur_led (s : State) (r : Row) (v : Byte) : (s.setBtnCur r v).led = s.led := rfl

@[simp] theorem State.setBtnCur_frame (s : State) (r : Row) (v : Byte) : (s.setBtnCur r v).frame = s.frame := rfl

@[simp] theorem State.setBtnCur_potQ (s : State) (r : Row) (v : Byte) : (s.setBtnCur r v).potQ = s.potQ := rfl

@[simp] theorem State.setBtnCur_lsn (s : State) (r : Row) (v : Byte) : (s.setBtnCur r v).lsn = s.lsn := rfl

@[simp] theorem State.setBtnCur_fault (s : State) (r : Row) (v : Byte) : (s.setBtnCur r v).fault = s.fault := rfl

@[simp] theorem State.setBtnCur_result (s : State) (r : Row) (v : Byte) : (s.setBtnCur r v).result = s.result := rfl

@[simp] theorem State.setBtnCur_pin (s : State) (r : Row) (v : Byte) : (s.setBtnCur r v).pin = s.pin := rfl

@[simp] theorem State.setBtnCur_shiftLevel (s : State) (r : Row) (v : Byte) : (s.setBtnCur r v).shiftLevel = s.shiftLevel := rfl

@[simp] theorem State.setBtnCur_oracle (s : State) (r : Row) (v : Byte) : (s.setBtnCur r v).oracle = s.oracle := rfl

@[simp] theorem State.setBtnCur_inbox (s : State) (r : Row) (v : Byte) : (s.setBtnCur r v).inbox = s.inbox := rfl

@[simp] theorem State.setBtnCur_hist (s : State) (r : Row) (v : Byte) : (s.setBtnCur r v).hist = s.hist := rfl

/-! ### setBtnPrev -/

@[simp] theorem State.setBtnPrev_btnCur (s : State) (r : Row) (v : Byte) : (s.setBtnPrev r v).btnCur = s.btnCur := rfl

@[simp] theorem State.setBtnPrev_btnPrev (s : State) (r : Row) (v : Byte) : (s.setBtnPrev r v).btnPrev = s.btnPrev.set r.val v := rfl

@[simp] theorem State.setBtnPrev_pressTs (s : State) (r : Row) (v : Byte) : (s.setBtnPrev r v).pressTs = s.pressTs := rfl

@[simp] theorem State.setBtnPrev_lastRead (s : State) (r : Row) (v : Byte) : (s.setBtnPrev r v).lastRead = s.lastRead := rfl

@[simp] theorem State.setBtnPrev_led (s : State) (r : Row) (v : Byte) : (s.setBtnPrev r v).led = s.led := rfl

@[simp] theorem State.setBtnPrev_frame (s : State) (r : Row) (v : Byte) : (s.setBtnPrev r v).frame = s.frame := rfl

@[simp] theorem State.setBtnPrev_potQ (s : State) (r : Row) (v : Byte) : (s.setBtnPrev r v).potQ = s.potQ := rfl

@[simp] theorem State.setBtnPrev_lsn (s : State) (r : Row) (v : Byte) : (s.setBtnPrev r v).lsn = s.lsn := rfl

@[simp] theorem State.setBtnPrev_fault (s : State) (r : Row) (v : Byte) : (s.setBtnPrev r v).fault = s.fault := rfl

@[simp] theorem State.setBtnPrev_result (s : State) (r : Row) (v : Byte) : (s.setBtnPrev r v).result = s.result := rfl

@[simp] theorem State.setBtnPrev_pin (s : State) (r : Row) (v : Byte) : (s.setBtnPrev r v).pin = s.pin := rfl

@[simp] theorem State.setBtnPrev_shiftLevel (s : State) (r : Row) (v : Byte) : (s.setBtnPrev r v).shiftLevel = s.shiftLevel := rfl

@[simp] theorem State.setBtnPrev_oracle (s : State) (r : Row) (v : Byte) : (s.setBtnPrev r v).oracle = s.oracle := rfl

@[simp] theorem State.setBtnPrev_inbox (s : State) (r : Row) (v : Byte) : (s.setBtnPrev r v).inbox = s.inbox := rfl

@[simp] theorem State.setBtnPrev_hist (s : State) (r : Row) (v : Byte) : (s.setBtnPrev r v).hist = s.hist := rfl

/-! ### setPressTs -/

@[simp] theorem State.setPressTs_btnCur (s : State) (r : Row) (c : Col) (t : Millis) : (s.setPressTs r c t).btnCur = s.btnCur := rfl

@[simp] theorem State.setPressTs_btnPrev (s : State) (r : Row) (c : Col) (t : Millis) : (s.setPressTs r c t).btnPrev = s.btnPrev := rfl

@[simp] theorem State.setPressTs_pressTs (s : State) (r : Row) (c : Col) (t : Millis) : (s.setPressTs r c t).pressTs = s.pressTs.set r.val (s.pressTs[r.val].set c.val t) := rfl

@[simp] theorem State.setPressTs_lastRead (s : State) (r : Row) (c : Col) (t : Millis) : (s.setPressTs r c t).lastRead = s.lastRead := rfl

@[simp] theorem State.setPressTs_led (s : State) (r : Row) (c : Col) (t : Millis) : (s.setPressTs r c t).led = s.led := rfl

@[simp] theorem State.setPressTs_frame (s : State) (r : Row) (c : Col) (t : Millis) : (s.setPressTs r c t).frame = s.frame := rfl

@[simp] theorem State.setPressTs_potQ (s : State) (r : Row) (c : Col) (t : Millis) : (s.setPressTs r c t).potQ = s.potQ := rfl

@[simp] theorem State.setPressTs_lsn (s : State) (r : Row) (c : Col) (t : Millis) : (s.setPressTs r c t).lsn = s.lsn := rfl

@[simp] theorem State.setPressTs_fault (s : State) (r : Row) (c : Col) (t : Millis) : (s.setPressTs r c t).fault = s.fault := rfl

@[simp] theorem State.setPressTs_result (s : State) (r : Row) (c : Col) (t : Millis) : (s.setPressTs r c t).result = s.result := rfl

@[simp] theorem State.setPressTs_pin (s : State) (r : Row) (c : Col) (t : Millis) : (s.setPressTs r c t).pin = s.pin := rfl

@[simp] theorem State.setPressTs_shiftLevel (s : State) (r : Row) (c : Col) (t : Millis) : (s.setPressTs r c t).shiftLevel = s.shiftLevel := rfl

@[simp] theorem State.setPressTs_oracle (s : State) (r : Row) (c : Col) (t : Millis) : (s.setPressTs r c t).oracle = s.oracle := rfl

@[simp] theorem State.setPressTs_inbox (s : State) (r : Row) (c : Col) (t : Millis) : (s.setPressTs r c t).inbox = s.inbox := rfl

@[simp] theorem State.setPressTs_hist (s : State) (r : Row) (c : Col) (t : Millis) : (s.setPressTs r c t).hist = s.hist := rfl

/-! ### setLastRead -/

@[simp] theorem State.setLastRead_btnCur (s : State) (t : Millis) : (s.setLastRead t).btnCur = s.btnCur := rfl

@[simp] theorem State.setLastRead_btnPrev (s : State) (t : Millis) : (s.setLastRead t).btnPrev = s.btnPrev := rfl

@[simp] theorem State.setLastRead_pressTs (s : State) (t : Millis) : (s.setLastRead t).pressTs = s.pressTs := rfl

@[simp] theorem State.setLastRead_lastRead (s : State) (t : Millis) : (s.setLastRead t).lastRead = t := rfl

@[simp] theorem State.setLastRead_led (s : State) (t : Millis) : (s.setLastRead t).led = s.led := rfl

@[simp] theorem State.setLastRead_frame (s : State) (t : Millis) : (s.setLastRead t).frame = s.frame := rfl

@[simp] theorem State.setLastRead_potQ (s : State) (t : Millis) : (s.setLastRead t).potQ = s.potQ := rfl

@[simp] theorem State.setLastRead_lsn (s : State) (t : Millis) : (s.setLastRead t).lsn = s.lsn := rfl

@[simp] theorem State.setLastRead_fault (s : State) (t : Millis) : (s.setLastRead t).fault = s.fault := rfl

@[simp] theorem State.setLastRead_result (s : State) (t : Millis) : (s.setLastRead t).result = s.result := rfl

@[simp] theorem State.setLastRead_pin (s : State) (t : Millis) : (s.setLastRead t).pin = s.pin := rfl

@[simp] theorem State.setLastRead_shiftLevel (s : State) (t : Millis) : (s.setLastRead t).shiftLevel = s.shiftLevel := rfl

@[simp] theorem State.setLastRead_oracle (s : State) (t : Millis) : (s.setLastRead t).oracle = s.oracle := rfl

@[simp] theorem State.setLastRead_inbox (s : State) (t : Millis) : (s.setLastRead t).inbox = s.inbox := rfl

@[simp] theorem State.setLastRead_hist (s : State) (t : Millis) : (s.setLastRead t).hist = s.hist := rfl

/-! ### setLedRow -/

@[simp] theorem State.setLedRow_btnCur (s : State) (r : Row) (v : Byte) : (s.setLedRow r v).btnCur = s.btnCur := rfl

@[simp] theorem State.setLedRow_btnPrev (s : State) (r : Row) (v : Byte) : (s.setLedRow r v).btnPrev = s.btnPrev := rfl

@[simp] theorem State.setLedRow_pressTs (s : State) (r : Row) (v : Byte) : (s.setLedRow r v).pressTs = s.pressTs := rfl

@[simp] theorem State.setLedRow_lastRead (s : State) (r : Row) (v : Byte) : (s.setLedRow r v).lastRead = s.lastRead := rfl

@[simp] theorem State.setLedRow_led (s : State) (r : Row) (v : Byte) : (s.setLedRow r v).led = s.led.set r.val v := rfl

@[simp] theorem State.setLedRow_frame (s : State) (r : Row) (v : Byte) : (s.setLedRow r v).frame = s.frame := rfl

@[simp] theorem State.setLedRow_potQ (s : State) (r : Row) (v : Byte) : (s.setLedRow r v).potQ = s.potQ := rfl

@[simp] theorem State.setLedRow_lsn (s : State) (r : Row) (v : Byte) : (s.setLedRow r v).lsn = s.lsn := rfl

@[simp] theorem State.setLedRow_fault (s : State) (r : Row) (v : Byte) : (s.setLedRow r v).fault = s.fault := rfl

@[simp] theorem State.setLedRow_result (s : State) (r : Row) (v : Byte) : (s.setLedRow r v).result = s.result := rfl

@[simp] theorem State.setLedRow_pin (s : State) (r : Row) (v : Byte) : (s.setLedRow r v).pin = s.pin := rfl

@[simp] theorem State.setLedRow_shiftLevel (s : State) (r : Row) (v : Byte) : (s.setLedRow r v).shiftLevel = s.shiftLevel := rfl

@[simp] theorem State.setLedRow_oracle (s : State) (r : Row) (v : Byte) : (s.setLedRow r v).oracle = s.oracle := rfl

@[simp] theorem State.setLedRow_inbox (s : State) (r : Row) (v : Byte) : (s.setLedRow r v).inbox = s.inbox := rfl

@[simp] theorem State.setLedRow_hist (s : State) (r : Row) (v : Byte) : (s.setLedRow r v).hist = s.hist := rfl

/-! ### setLedBit -/

@[simp] theorem State.setLedBit_btnCur (s : State) (r : Row) (c : Col) (b : Bool) : (s.setLedBit r c b).btnCur = s.btnCur := rfl

@[simp] theorem State.setLedBit_btnPrev (s : State) (r : Row) (c : Col) (b : Bool) : (s.setLedBit r c b).btnPrev = s.btnPrev := rfl

@[simp] theorem State.setLedBit_pressTs (s : State) (r : Row) (c : Col) (b : Bool) : (s.setLedBit r c b).pressTs = s.pressTs := rfl

@[simp] theorem State.setLedBit_lastRead (s : State) (r : Row) (c : Col) (b : Bool) : (s.setLedBit r c b).lastRead = s.lastRead := rfl

@[simp] theorem State.setLedBit_led (s : State) (r : Row) (c : Col) (b : Bool) : (s.setLedBit r c b).led = s.led.set r.val (setBit s.led[r.val] (ledBit c) b) := rfl

@[simp] theorem State.setLedBit_frame (s : State) (r : Row) (c : Col) (b : Bool) : (s.setLedBit r c b).frame = s.frame := rfl

@[simp] theorem State.setLedBit_potQ (s : State) (r : Row) (c : Col) (b : Bool) : (s.setLedBit r c b).potQ = s.potQ := rfl

@[simp] theorem State.setLedBit_lsn (s : State) (r : Row) (c : Col) (b : Bool) : (s.setLedBit r c b).lsn = s.lsn := rfl

@[simp] theorem State.setLedBit_fault (s : State) (r : Row) (c : Col) (b : Bool) : (s.setLedBit r c b).fault = s.fault := rfl

@[simp] theorem State.setLedBit_result (s : State) (r : Row) (c : Col) (b : Bool) : (s.setLedBit r c b).result = s.result := rfl

@[simp] theorem State.setLedBit_pin (s : State) (r : Row) (c : Col) (b : Bool) : (s.setLedBit r c b).pin = s.pin := rfl

@[simp] theorem State.setLedBit_shiftLevel (s : State) (r : Row) (c : Col) (b : Bool) : (s.setLedBit r c b).shiftLevel = s.shiftLevel := rfl

@[simp] theorem State.setLedBit_oracle (s : State) (r : Row) (c : Col) (b : Bool) : (s.setLedBit r c b).oracle = s.oracle := rfl

@[simp] theorem State.setLedBit_inbox (s : State) (r : Row) (c : Col) (b : Bool) : (s.setLedBit r c b).inbox = s.inbox := rfl

@[simp] theorem State.setLedBit_hist (s : State) (r : Row) (c : Col) (b : Bool) : (s.setLedBit r c b).hist = s.hist := rfl

/-! ### advanceFrame -/

@[simp] theorem State.advanceFrame_btnCur (s : State) : s.advanceFrame.btnCur = s.btnCur := rfl

@[simp] theorem State.advanceFrame_btnPrev (s : State) : s.advanceFrame.btnPrev = s.btnPrev := rfl

@[simp] theorem State.advanceFrame_pressTs (s : State) : s.advanceFrame.pressTs = s.pressTs := rfl

@[simp] theorem State.advanceFrame_lastRead (s : State) : s.advanceFrame.lastRead = s.lastRead := rfl

@[simp] theorem State.advanceFrame_led (s : State) : s.advanceFrame.led = s.led := rfl

@[simp] theorem State.advanceFrame_frame (s : State) : s.advanceFrame.frame = s.frame + 1 := rfl

@[simp] theorem State.advanceFrame_potQ (s : State) : s.advanceFrame.potQ = s.potQ := rfl

@[simp] theorem State.advanceFrame_lsn (s : State) : s.advanceFrame.lsn = s.lsn := rfl

@[simp] theorem State.advanceFrame_fault (s : State) : s.advanceFrame.fault = s.fault := rfl

@[simp] theorem State.advanceFrame_result (s : State) : s.advanceFrame.result = s.result := rfl

@[simp] theorem State.advanceFrame_pin (s : State) : s.advanceFrame.pin = s.pin := rfl

@[simp] theorem State.advanceFrame_shiftLevel (s : State) : s.advanceFrame.shiftLevel = s.shiftLevel := rfl

@[simp] theorem State.advanceFrame_oracle (s : State) : s.advanceFrame.oracle = s.oracle := rfl

@[simp] theorem State.advanceFrame_inbox (s : State) : s.advanceFrame.inbox = s.inbox := rfl

@[simp] theorem State.advanceFrame_hist (s : State) : s.advanceFrame.hist = s.hist := rfl

/-! ### setPotQ -/

@[simp] theorem State.setPotQ_btnCur (s : State) (ch : Chan) (q : BitVec 7) : (s.setPotQ ch q).btnCur = s.btnCur := rfl

@[simp] theorem State.setPotQ_btnPrev (s : State) (ch : Chan) (q : BitVec 7) : (s.setPotQ ch q).btnPrev = s.btnPrev := rfl

@[simp] theorem State.setPotQ_pressTs (s : State) (ch : Chan) (q : BitVec 7) : (s.setPotQ ch q).pressTs = s.pressTs := rfl

@[simp] theorem State.setPotQ_lastRead (s : State) (ch : Chan) (q : BitVec 7) : (s.setPotQ ch q).lastRead = s.lastRead := rfl

@[simp] theorem State.setPotQ_led (s : State) (ch : Chan) (q : BitVec 7) : (s.setPotQ ch q).led = s.led := rfl

@[simp] theorem State.setPotQ_frame (s : State) (ch : Chan) (q : BitVec 7) : (s.setPotQ ch q).frame = s.frame := rfl

@[simp] theorem State.setPotQ_potQ (s : State) (ch : Chan) (q : BitVec 7) : (s.setPotQ ch q).potQ = s.potQ.set ch.val q := rfl

@[simp] theorem State.setPotQ_lsn (s : State) (ch : Chan) (q : BitVec 7) : (s.setPotQ ch q).lsn = s.lsn := rfl

@[simp] theorem State.setPotQ_fault (s : State) (ch : Chan) (q : BitVec 7) : (s.setPotQ ch q).fault = s.fault := rfl

@[simp] theorem State.setPotQ_result (s : State) (ch : Chan) (q : BitVec 7) : (s.setPotQ ch q).result = s.result := rfl

@[simp] theorem State.setPotQ_pin (s : State) (ch : Chan) (q : BitVec 7) : (s.setPotQ ch q).pin = s.pin := rfl

@[simp] theorem State.setPotQ_shiftLevel (s : State) (ch : Chan) (q : BitVec 7) : (s.setPotQ ch q).shiftLevel = s.shiftLevel := rfl

@[simp] theorem State.setPotQ_oracle (s : State) (ch : Chan) (q : BitVec 7) : (s.setPotQ ch q).oracle = s.oracle := rfl

@[simp] theorem State.setPotQ_inbox (s : State) (ch : Chan) (q : BitVec 7) : (s.setPotQ ch q).inbox = s.inbox := rfl

@[simp] theorem State.setPotQ_hist (s : State) (ch : Chan) (q : BitVec 7) : (s.setPotQ ch q).hist = s.hist := rfl

/-! ### setListener -/

@[simp] theorem State.setListener_btnCur (s : State) (j : Slot) (en : Bool) : (s.setListener j en).btnCur = s.btnCur := rfl

@[simp] theorem State.setListener_btnPrev (s : State) (j : Slot) (en : Bool) : (s.setListener j en).btnPrev = s.btnPrev := rfl

@[simp] theorem State.setListener_pressTs (s : State) (j : Slot) (en : Bool) : (s.setListener j en).pressTs = s.pressTs := rfl

@[simp] theorem State.setListener_lastRead (s : State) (j : Slot) (en : Bool) : (s.setListener j en).lastRead = s.lastRead := rfl

@[simp] theorem State.setListener_led (s : State) (j : Slot) (en : Bool) : (s.setListener j en).led = s.led := rfl

@[simp] theorem State.setListener_frame (s : State) (j : Slot) (en : Bool) : (s.setListener j en).frame = s.frame := rfl

@[simp] theorem State.setListener_potQ (s : State) (j : Slot) (en : Bool) : (s.setListener j en).potQ = s.potQ := rfl

@[simp] theorem State.setListener_lsn (s : State) (j : Slot) (en : Bool) : (s.setListener j en).lsn = setBit s.lsn j.val en := rfl

@[simp] theorem State.setListener_fault (s : State) (j : Slot) (en : Bool) : (s.setListener j en).fault = s.fault := rfl

@[simp] theorem State.setListener_result (s : State) (j : Slot) (en : Bool) : (s.setListener j en).result = s.result := rfl

@[simp] theorem State.setListener_pin (s : State) (j : Slot) (en : Bool) : (s.setListener j en).pin = s.pin := rfl

@[simp] theorem State.setListener_shiftLevel (s : State) (j : Slot) (en : Bool) : (s.setListener j en).shiftLevel = s.shiftLevel := rfl

@[simp] theorem State.setListener_oracle (s : State) (j : Slot) (en : Bool) : (s.setListener j en).oracle = s.oracle := rfl

@[simp] theorem State.setListener_inbox (s : State) (j : Slot) (en : Bool) : (s.setListener j en).inbox = s.inbox := rfl

@[simp] theorem State.setListener_hist (s : State) (j : Slot) (en : Bool) : (s.setListener j en).hist = s.hist := rfl

/-! ### raiseFault -/

@[simp] theorem State.raiseFault_btnCur (s : State) (code : FaultCode) : (s.raiseFault code).btnCur = s.btnCur := rfl

@[simp] theorem State.raiseFault_btnPrev (s : State) (code : FaultCode) : (s.raiseFault code).btnPrev = s.btnPrev := rfl

@[simp] theorem State.raiseFault_pressTs (s : State) (code : FaultCode) : (s.raiseFault code).pressTs = s.pressTs := rfl

@[simp] theorem State.raiseFault_lastRead (s : State) (code : FaultCode) : (s.raiseFault code).lastRead = s.lastRead := rfl

@[simp] theorem State.raiseFault_led (s : State) (code : FaultCode) : (s.raiseFault code).led = s.led := rfl

@[simp] theorem State.raiseFault_frame (s : State) (code : FaultCode) : (s.raiseFault code).frame = s.frame := rfl

@[simp] theorem State.raiseFault_potQ (s : State) (code : FaultCode) : (s.raiseFault code).potQ = s.potQ := rfl

@[simp] theorem State.raiseFault_lsn (s : State) (code : FaultCode) : (s.raiseFault code).lsn = s.lsn := rfl

@[simp] theorem State.raiseFault_fault (s : State) (code : FaultCode) : (s.raiseFault code).fault = setFault s.fault code := rfl

@[simp] theorem State.raiseFault_result (s : State) (code : FaultCode) : (s.raiseFault code).result = s.result := rfl

@[simp] theorem State.raiseFault_pin (s : State) (code : FaultCode) : (s.raiseFault code).pin = s.pin := rfl

@[simp] theorem State.raiseFault_shiftLevel (s : State) (code : FaultCode) : (s.raiseFault code).shiftLevel = s.shiftLevel := rfl

@[simp] theorem State.raiseFault_oracle (s : State) (code : FaultCode) : (s.raiseFault code).oracle = s.oracle := rfl

@[simp] theorem State.raiseFault_inbox (s : State) (code : FaultCode) : (s.raiseFault code).inbox = s.inbox := rfl

@[simp] theorem State.raiseFault_hist (s : State) (code : FaultCode) : (s.raiseFault code).hist = s.hist := rfl

/-! ### assertReset -/

@[simp] theorem State.assertReset_btnCur (s : State) : s.assertReset.btnCur = Vector.replicate 5 0 := rfl

@[simp] theorem State.assertReset_btnPrev (s : State) : s.assertReset.btnPrev = Vector.replicate 5 0 := rfl

@[simp] theorem State.assertReset_pressTs (s : State) : s.assertReset.pressTs = Vector.replicate 5 (Vector.replicate 8 0) := rfl

@[simp] theorem State.assertReset_lastRead (s : State) : s.assertReset.lastRead = 0 := rfl

@[simp] theorem State.assertReset_led (s : State) : s.assertReset.led = Vector.replicate 5 0 := rfl

@[simp] theorem State.assertReset_frame (s : State) : s.assertReset.frame = 0 := rfl

@[simp] theorem State.assertReset_potQ (s : State) : s.assertReset.potQ = Vector.replicate 6 0 := rfl

@[simp] theorem State.assertReset_lsn (s : State) : s.assertReset.lsn = 0 := rfl

@[simp] theorem State.assertReset_fault (s : State) : s.assertReset.fault = 0 := rfl

@[simp] theorem State.assertReset_result (s : State) : s.assertReset.result = 0 := rfl

@[simp] theorem State.assertReset_pin (s : State) : s.assertReset.pin = Pins.reset s.shiftLevel := rfl

@[simp] theorem State.assertReset_shiftLevel (s : State) : s.assertReset.shiftLevel = s.shiftLevel := rfl

@[simp] theorem State.assertReset_oracle (s : State) : s.assertReset.oracle = s.oracle := rfl

@[simp] theorem State.assertReset_inbox (s : State) : s.assertReset.inbox = s.inbox := rfl

@[simp] theorem State.assertReset_hist (s : State) : s.assertReset.hist = s.hist := rfl

/-! ### emitIf -/

@[simp] theorem State.emitIf_btnCur (s : State) (notify : Bool) (ev : Event) : (s.emitIf notify ev).btnCur = s.btnCur := by
  cases notify <;> rfl

@[simp] theorem State.emitIf_btnPrev (s : State) (notify : Bool) (ev : Event) : (s.emitIf notify ev).btnPrev = s.btnPrev := by
  cases notify <;> rfl

@[simp] theorem State.emitIf_pressTs (s : State) (notify : Bool) (ev : Event) : (s.emitIf notify ev).pressTs = s.pressTs := by
  cases notify <;> rfl

@[simp] theorem State.emitIf_lastRead (s : State) (notify : Bool) (ev : Event) : (s.emitIf notify ev).lastRead = s.lastRead := by
  cases notify <;> rfl

@[simp] theorem State.emitIf_led (s : State) (notify : Bool) (ev : Event) : (s.emitIf notify ev).led = s.led := by
  cases notify <;> rfl

@[simp] theorem State.emitIf_frame (s : State) (notify : Bool) (ev : Event) : (s.emitIf notify ev).frame = s.frame := by
  cases notify <;> rfl

@[simp] theorem State.emitIf_potQ (s : State) (notify : Bool) (ev : Event) : (s.emitIf notify ev).potQ = s.potQ := by
  cases notify <;> rfl

@[simp] theorem State.emitIf_lsn (s : State) (notify : Bool) (ev : Event) : (s.emitIf notify ev).lsn = s.lsn := by
  cases notify <;> rfl

@[simp] theorem State.emitIf_fault (s : State) (notify : Bool) (ev : Event) : (s.emitIf notify ev).fault = s.fault := by
  cases notify <;> rfl

@[simp] theorem State.emitIf_result (s : State) (notify : Bool) (ev : Event) : (s.emitIf notify ev).result = s.result := by
  cases notify <;> rfl

@[simp] theorem State.emitIf_pin (s : State) (notify : Bool) (ev : Event) : (s.emitIf notify ev).pin = s.pin := by
  cases notify <;> rfl

@[simp] theorem State.emitIf_shiftLevel (s : State) (notify : Bool) (ev : Event) : (s.emitIf notify ev).shiftLevel = s.shiftLevel := by
  cases notify <;> rfl

@[simp] theorem State.emitIf_oracle (s : State) (notify : Bool) (ev : Event) : (s.emitIf notify ev).oracle = s.oracle := by
  cases notify <;> rfl

@[simp] theorem State.emitIf_inbox (s : State) (notify : Bool) (ev : Event) : (s.emitIf notify ev).inbox = s.inbox := by
  cases notify <;> rfl

@[simp] theorem State.emitIf_hist (s : State) (notify : Bool) (ev : Event) :
    (s.emitIf notify ev).hist = s.hist ++ if notify then emitted s.lsn ev else [] := by
  cases notify <;> simp [State.emitIf]

/-! ### The oracle -/

@[simp] theorem Feed.advance_script {α : Type} (f : Feed α) (n : Nat) : (f.advance n).script = f.script.drop n := rfl

@[simp] theorem Feed.advance_drawn {α : Type} (f : Feed α) (n : Nat) : (f.advance n).drawn = f.drawn + n := rfl

@[simp] theorem Feed.advance_zero {α : Type} (f : Feed α) : f.advance 0 = f := rfl

@[simp] theorem Feed.advance_advance {α : Type} (f : Feed α) (m n : Nat) : (f.advance m).advance n = f.advance (m + n) := by
  simp [Feed.advance, List.drop_drop, Nat.add_assoc]

@[simp] theorem Feed.answer_advance {α : Type} (free : Nat → α) (f : Feed α) (m n : Nat) :
    (f.advance m).answer free n = f.answer free (m + n) := by
  simp [Feed.answer, Nat.add_assoc]


@[simp] theorem Oracle.drawBtnData_btnData (o : Oracle) (n : Nat) : (o.drawBtnData n).btnData = o.btnData.advance n := rfl

@[simp] theorem Oracle.drawBtnData_ain (o : Oracle) (n : Nat) : (o.drawBtnData n).ain = o.ain := rfl

@[simp] theorem Oracle.drawBtnData_nowMs (o : Oracle) (n : Nat) : (o.drawBtnData n).nowMs = o.nowMs := rfl

@[simp] theorem Oracle.drawBtnData_zero (o : Oracle) : o.drawBtnData 0 = o := rfl

@[simp] theorem Oracle.drawBtnData_drawBtnData (o : Oracle) (m n : Nat) : (o.drawBtnData m).drawBtnData n = o.drawBtnData (m + n) := by
  simp [Oracle.drawBtnData]

@[simp] theorem Oracle.btnDataAt_drawBtnData (o : Oracle) (m n : Nat) : (o.drawBtnData m).btnDataAt n = o.btnDataAt (m + n) := by
  simp [Oracle.btnDataAt]

@[simp] theorem Oracle.ainAt_drawBtnData (o : Oracle) (m n : Nat) : (o.drawBtnData m).ainAt n = o.ainAt n := rfl

@[simp] theorem Oracle.nowAt_drawBtnData (o : Oracle) (m n : Nat) : (o.drawBtnData m).nowAt n = o.nowAt n := rfl

@[simp] theorem Oracle.drawAin_btnData (o : Oracle) (n : Nat) : (o.drawAin n).btnData = o.btnData := rfl

@[simp] theorem Oracle.drawAin_ain (o : Oracle) (n : Nat) : (o.drawAin n).ain = o.ain.advance n := rfl

@[simp] theorem Oracle.drawAin_nowMs (o : Oracle) (n : Nat) : (o.drawAin n).nowMs = o.nowMs := rfl

@[simp] theorem Oracle.drawAin_zero (o : Oracle) : o.drawAin 0 = o := rfl

@[simp] theorem Oracle.drawAin_drawAin (o : Oracle) (m n : Nat) : (o.drawAin m).drawAin n = o.drawAin (m + n) := by
  simp [Oracle.drawAin]

@[simp] theorem Oracle.btnDataAt_drawAin (o : Oracle) (m n : Nat) : (o.drawAin m).btnDataAt n = o.btnDataAt n := rfl

@[simp] theorem Oracle.ainAt_drawAin (o : Oracle) (m n : Nat) : (o.drawAin m).ainAt n = o.ainAt (m + n) := by
  simp [Oracle.ainAt]

@[simp] theorem Oracle.nowAt_drawAin (o : Oracle) (m n : Nat) : (o.drawAin m).nowAt n = o.nowAt n := rfl

@[simp] theorem Oracle.drawNow_btnData (o : Oracle) (n : Nat) : (o.drawNow n).btnData = o.btnData := rfl

@[simp] theorem Oracle.drawNow_ain (o : Oracle) (n : Nat) : (o.drawNow n).ain = o.ain := rfl

@[simp] theorem Oracle.drawNow_nowMs (o : Oracle) (n : Nat) : (o.drawNow n).nowMs = o.nowMs.advance n := rfl

@[simp] theorem Oracle.drawNow_zero (o : Oracle) : o.drawNow 0 = o := rfl

@[simp] theorem Oracle.drawNow_drawNow (o : Oracle) (m n : Nat) : (o.drawNow m).drawNow n = o.drawNow (m + n) := by
  simp [Oracle.drawNow]

@[simp] theorem Oracle.btnDataAt_drawNow (o : Oracle) (m n : Nat) : (o.drawNow m).btnDataAt n = o.btnDataAt n := rfl

@[simp] theorem Oracle.ainAt_drawNow (o : Oracle) (m n : Nat) : (o.drawNow m).ainAt n = o.ainAt n := rfl

@[simp] theorem Oracle.nowAt_drawNow (o : Oracle) (m n : Nat) : (o.drawNow m).nowAt n = o.nowAt (m + n) := by
  simp [Oracle.nowAt]

/-! ### The pins -/

@[simp] theorem Pins.level_drive_same (p : Pins) (pin : Pin) (b : Bool) : (p.drive pin b).level pin = b := by
  cases pin <;> simp [Pins.drive, Pins.level]

theorem Pins.level_drive_other (p : Pins) (pin other : Pin) (b : Bool) (h : pin ≠ other) :
    (p.drive pin b).level other = p.level other := by
  cases pin <;> cases other <;> simp_all [Pins.drive, Pins.level]
  next i j => exact Vector.getElem_set_ne _ _ (fun e => h (Fin.ext e))


@[simp] theorem Pins.drive_btnClk_btnClk (p : Pins) (b : Bool) : (p.drive .btnClk b).btnClk = b := rfl

@[simp] theorem Pins.drive_btnClk_btnLatch (p : Pins) (b : Bool) : (p.drive .btnClk b).btnLatch = p.btnLatch := rfl

@[simp] theorem Pins.drive_btnClk_ledData (p : Pins) (b : Bool) : (p.drive .btnClk b).ledData = p.ledData := rfl

@[simp] theorem Pins.drive_btnClk_ledClk (p : Pins) (b : Bool) : (p.drive .btnClk b).ledClk = p.ledClk := rfl

@[simp] theorem Pins.drive_btnClk_ledLatch (p : Pins) (b : Bool) : (p.drive .btnClk b).ledLatch = p.ledLatch := rfl

@[simp] theorem Pins.drive_btnClk_sel (p : Pins) (b : Bool) : (p.drive .btnClk b).sel = p.sel := rfl

@[simp] theorem Pins.drive_btnLatch_btnClk (p : Pins) (b : Bool) : (p.drive .btnLatch b).btnClk = p.btnClk := rfl

@[simp] theorem Pins.drive_btnLatch_btnLatch (p : Pins) (b : Bool) : (p.drive .btnLatch b).btnLatch = b := rfl

@[simp] theorem Pins.drive_btnLatch_ledData (p : Pins) (b : Bool) : (p.drive .btnLatch b).ledData = p.ledData := rfl

@[simp] theorem Pins.drive_btnLatch_ledClk (p : Pins) (b : Bool) : (p.drive .btnLatch b).ledClk = p.ledClk := rfl

@[simp] theorem Pins.drive_btnLatch_ledLatch (p : Pins) (b : Bool) : (p.drive .btnLatch b).ledLatch = p.ledLatch := rfl

@[simp] theorem Pins.drive_btnLatch_sel (p : Pins) (b : Bool) : (p.drive .btnLatch b).sel = p.sel := rfl

@[simp] theorem Pins.drive_ledData_btnClk (p : Pins) (b : Bool) : (p.drive .ledData b).btnClk = p.btnClk := rfl

@[simp] theorem Pins.drive_ledData_btnLatch (p : Pins) (b : Bool) : (p.drive .ledData b).btnLatch = p.btnLatch := rfl

@[simp] theorem Pins.drive_ledData_ledData (p : Pins) (b : Bool) : (p.drive .ledData b).ledData = b := rfl

@[simp] theorem Pins.drive_ledData_ledClk (p : Pins) (b : Bool) : (p.drive .ledData b).ledClk = p.ledClk := rfl

@[simp] theorem Pins.drive_ledData_ledLatch (p : Pins) (b : Bool) : (p.drive .ledData b).ledLatch = p.ledLatch := rfl

@[simp] theorem Pins.drive_ledData_sel (p : Pins) (b : Bool) : (p.drive .ledData b).sel = p.sel := rfl

@[simp] theorem Pins.drive_ledClk_btnClk (p : Pins) (b : Bool) : (p.drive .ledClk b).btnClk = p.btnClk := rfl

@[simp] theorem Pins.drive_ledClk_btnLatch (p : Pins) (b : Bool) : (p.drive .ledClk b).btnLatch = p.btnLatch := rfl

@[simp] theorem Pins.drive_ledClk_ledData (p : Pins) (b : Bool) : (p.drive .ledClk b).ledData = p.ledData := rfl

@[simp] theorem Pins.drive_ledClk_ledClk (p : Pins) (b : Bool) : (p.drive .ledClk b).ledClk = b := rfl

@[simp] theorem Pins.drive_ledClk_ledLatch (p : Pins) (b : Bool) : (p.drive .ledClk b).ledLatch = p.ledLatch := rfl

@[simp] theorem Pins.drive_ledClk_sel (p : Pins) (b : Bool) : (p.drive .ledClk b).sel = p.sel := rfl

@[simp] theorem Pins.drive_ledLatch_btnClk (p : Pins) (b : Bool) : (p.drive .ledLatch b).btnClk = p.btnClk := rfl

@[simp] theorem Pins.drive_ledLatch_btnLatch (p : Pins) (b : Bool) : (p.drive .ledLatch b).btnLatch = p.btnLatch := rfl

@[simp] theorem Pins.drive_ledLatch_ledData (p : Pins) (b : Bool) : (p.drive .ledLatch b).ledData = p.ledData := rfl

@[simp] theorem Pins.drive_ledLatch_ledClk (p : Pins) (b : Bool) : (p.drive .ledLatch b).ledClk = p.ledClk := rfl

@[simp] theorem Pins.drive_ledLatch_ledLatch (p : Pins) (b : Bool) : (p.drive .ledLatch b).ledLatch = b := rfl

@[simp] theorem Pins.drive_ledLatch_sel (p : Pins) (b : Bool) : (p.drive .ledLatch b).sel = p.sel := rfl

@[simp] theorem Pins.drive_sel_btnClk (p : Pins) (j : Fin 3) (b : Bool) : (p.drive (.sel j) b).btnClk = p.btnClk := rfl

@[simp] theorem Pins.drive_sel_btnLatch (p : Pins) (j : Fin 3) (b : Bool) : (p.drive (.sel j) b).btnLatch = p.btnLatch := rfl

@[simp] theorem Pins.drive_sel_ledData (p : Pins) (j : Fin 3) (b : Bool) : (p.drive (.sel j) b).ledData = p.ledData := rfl

@[simp] theorem Pins.drive_sel_ledClk (p : Pins) (j : Fin 3) (b : Bool) : (p.drive (.sel j) b).ledClk = p.ledClk := rfl

@[simp] theorem Pins.drive_sel_ledLatch (p : Pins) (j : Fin 3) (b : Bool) : (p.drive (.sel j) b).ledLatch = p.ledLatch := rfl

@[simp] theorem Pins.drive_sel_sel (p : Pins) (j : Fin 3) (b : Bool) : (p.drive (.sel j) b).sel = p.sel.set j.val b := rfl

end Sys2Proof.Machine
end

