-- ==== Sys2Proof/Laws/Codec.lean ====
section
/-! SUPPORT. What one `ShiftIn` and one `ShiftOut` can do, once. -/

namespace Sys2Proof.Machine

@[simp] theorem nextBtnData_eq (s : State) : s.nextBtnData = s.oracle.btnDataAt 0 := rfl

@[simp] theorem nextAin_eq (s : State) : s.nextAin = s.oracle.ainAt 0 := rfl

@[simp] theorem nextNow_eq (s : State) : s.nextNow = s.oracle.nowAt 0 := rfl

theorem shiftIn_fst (s : State) : (shiftIn s).1 = nextByte s.oracle := by
  apply BitVec.eq_of_getLsbD_eq
  intro i h
  rw [nextByte, getLsbD_byteOf _ i h]
  simp only [shiftIn, bitOrder, List.foldl, shiftInStep, nextBtnData_eq, State.pinWrite_oracle, State.delayUs_oracle,
    State.pinRead_oracle, Oracle.drawBtnData_drawBtnData, Oracle.btnDataAt_drawBtnData, getLsbD_setBit]
  interval_cases i <;> simp

/-- Everything `ShiftIn` does: the byte of the next eight answers, the clock left high, eight answers drawn, 32 events. -/
theorem shiftIn_eq (s : State) :
    shiftIn s = (nextByte s.oracle,
      { s with
        pin := { s.pin with btnClk := true }
        oracle := s.oracle.drawBtnData 8
        hist := s.hist ++ shiftInEvents (nextByte s.oracle) }) := by
  refine Prod.ext (shiftIn_fst s) ?_
  simp only [nextByte, shiftInEvents, bitOrder, List.flatMap_cons, List.flatMap_nil]
  rw [getLsbD_byteOf _ _ (by decide), getLsbD_byteOf _ _ (by decide), getLsbD_byteOf _ _ (by decide), getLsbD_byteOf _ _ (by decide),
    getLsbD_byteOf _ _ (by decide), getLsbD_byteOf _ _ (by decide), getLsbD_byteOf _ _ (by decide), getLsbD_byteOf _ _ (by decide)]
  simp [shiftIn, bitOrder, shiftInStep, State.pinWrite, State.delayUs, State.pinRead, Pins.drive, shinSetupUs, State.nextBtnData]

/-- Everything `ShiftOut` does: the last bit left on the data line, the clock left low, 24 events. -/
theorem shiftOut_eq (order : BitOrder) (value : Byte) (s : State) :
    shiftOut order value s =
      { s with
        pin := { s.pin with ledData := outBit order value 7, ledClk := false }
        hist := s.hist ++ shiftOutEvents order value } := by
  simp [shiftOut, shiftOutEvents, bitOrder, shiftOutStep, State.pinWrite, Pins.drive]

/-! ### Field by field (generated shape: one lemma for each field) -/

@[simp] theorem shiftIn_snd_btnCur (s : State) : (shiftIn s).2.btnCur = s.btnCur := by
  rw [shiftIn_eq]

@[simp] theorem shiftIn_snd_btnPrev (s : State) : (shiftIn s).2.btnPrev = s.btnPrev := by
  rw [shiftIn_eq]

@[simp] theorem shiftIn_snd_pressTs (s : State) : (shiftIn s).2.pressTs = s.pressTs := by
  rw [shiftIn_eq]

@[simp] theorem shiftIn_snd_lastRead (s : State) : (shiftIn s).2.lastRead = s.lastRead := by
  rw [shiftIn_eq]

@[simp] theorem shiftIn_snd_led (s : State) : (shiftIn s).2.led = s.led := by
  rw [shiftIn_eq]

@[simp] theorem shiftIn_snd_frame (s : State) : (shiftIn s).2.frame = s.frame := by
  rw [shiftIn_eq]

@[simp] theorem shiftIn_snd_potQ (s : State) : (shiftIn s).2.potQ = s.potQ := by
  rw [shiftIn_eq]

@[simp] theorem shiftIn_snd_lsn (s : State) : (shiftIn s).2.lsn = s.lsn := by
  rw [shiftIn_eq]

@[simp] theorem shiftIn_snd_fault (s : State) : (shiftIn s).2.fault = s.fault := by
  rw [shiftIn_eq]

@[simp] theorem shiftIn_snd_result (s : State) : (shiftIn s).2.result = s.result := by
  rw [shiftIn_eq]

@[simp] theorem shiftIn_snd_pin (s : State) :
    (shiftIn s).2.pin = { s.pin with btnClk := true } := by
  rw [shiftIn_eq]

@[simp] theorem shiftIn_snd_shiftLevel (s : State) : (shiftIn s).2.shiftLevel = s.shiftLevel := by
  rw [shiftIn_eq]

@[simp] theorem shiftIn_snd_oracle (s : State) :
    (shiftIn s).2.oracle = s.oracle.drawBtnData 8 := by
  rw [shiftIn_eq]

@[simp] theorem shiftIn_snd_inbox (s : State) : (shiftIn s).2.inbox = s.inbox := by
  rw [shiftIn_eq]

@[simp] theorem shiftIn_snd_hist (s : State) :
    (shiftIn s).2.hist = s.hist ++ shiftInEvents (nextByte s.oracle) := by
  rw [shiftIn_eq]

@[simp] theorem shiftOut_btnCur (order : BitOrder) (value : Byte) (s : State) : (shiftOut order value s).btnCur = s.btnCur := by
  rw [shiftOut_eq]

@[simp] theorem shiftOut_btnPrev (order : BitOrder) (value : Byte) (s : State) : (shiftOut order value s).btnPrev = s.btnPrev := by
  rw [shiftOut_eq]

@[simp] theorem shiftOut_pressTs (order : BitOrder) (value : Byte) (s : State) : (shiftOut order value s).pressTs = s.pressTs := by
  rw [shiftOut_eq]

@[simp] theorem shiftOut_lastRead (order : BitOrder) (value : Byte) (s : State) : (shiftOut order value s).lastRead = s.lastRead := by
  rw [shiftOut_eq]

@[simp] theorem shiftOut_led (order : BitOrder) (value : Byte) (s : State) : (shiftOut order value s).led = s.led := by
  rw [shiftOut_eq]

@[simp] theorem shiftOut_frame (order : BitOrder) (value : Byte) (s : State) : (shiftOut order value s).frame = s.frame := by
  rw [shiftOut_eq]

@[simp] theorem shiftOut_potQ (order : BitOrder) (value : Byte) (s : State) : (shiftOut order value s).potQ = s.potQ := by
  rw [shiftOut_eq]

@[simp] theorem shiftOut_lsn (order : BitOrder) (value : Byte) (s : State) : (shiftOut order value s).lsn = s.lsn := by
  rw [shiftOut_eq]

@[simp] theorem shiftOut_fault (order : BitOrder) (value : Byte) (s : State) : (shiftOut order value s).fault = s.fault := by
  rw [shiftOut_eq]

@[simp] theorem shiftOut_result (order : BitOrder) (value : Byte) (s : State) : (shiftOut order value s).result = s.result := by
  rw [shiftOut_eq]

@[simp] theorem shiftOut_pin (order : BitOrder) (value : Byte) (s : State) :
    (shiftOut order value s).pin = { s.pin with ledData := outBit order value 7, ledClk := false } := by
  rw [shiftOut_eq]

@[simp] theorem shiftOut_shiftLevel (order : BitOrder) (value : Byte) (s : State) : (shiftOut order value s).shiftLevel = s.shiftLevel := by
  rw [shiftOut_eq]

@[simp] theorem shiftOut_oracle (order : BitOrder) (value : Byte) (s : State) : (shiftOut order value s).oracle = s.oracle := by
  rw [shiftOut_eq]

@[simp] theorem shiftOut_inbox (order : BitOrder) (value : Byte) (s : State) : (shiftOut order value s).inbox = s.inbox := by
  rw [shiftOut_eq]

@[simp] theorem shiftOut_hist (order : BitOrder) (value : Byte) (s : State) :
    (shiftOut order value s).hist = s.hist ++ shiftOutEvents order value := by
  rw [shiftOut_eq]

end Sys2Proof.Machine
end

