-- ==== Sys2Proof/Laws/Buttons.lean ====
section
/-! SUPPORT. What one column and one row of a scan can do, once. -/

namespace Sys2Proof.Machine

/-- Everything one column of the edge detection does: a press, a release, or nothing. -/
theorem scanCell_eq (now : Millis) (notify : Bool) (r : Row) (s : State) (c : Col) :
    scanCell now notify r s c =
      if risingEdge s.btnPrev s.btnCur r c then
        { s with
          pressTs := s.pressTs.set r.val (s.pressTs[r.val].set c.val now)
          hist := s.hist ++ if notify then emitted s.lsn (.down r c) else [] }
      else if fallingEdge s.btnPrev s.btnCur r c then
        { s with hist := s.hist ++ if notify then emitted s.lsn (.up r c (now - s.pressTs[r.val][c.val])) else [] }
      else s := by
  unfold scanCell risingEdge fallingEdge cellBit btnBit
  cases s.btnPrev[r.val].getLsbD c.val <;> cases s.btnCur[r.val].getLsbD c.val <;> cases notify <;>
    simp [State.emitIf, State.emit, State.setPressTs, heldMillis]

/-- The state of a row's scan before its columns are looked at: the old byte saved, the new one sampled. -/
def sampledRowState (s : State) (r : Row) : State :=
  { s with
    btnPrev := s.btnPrev.set r.val s.btnCur[r.val]
    btnCur := s.btnCur.set r.val (nextByte s.oracle)
    pin := { s.pin with btnClk := true }
    oracle := s.oracle.drawBtnData 8
    hist := s.hist ++ shiftInEvents (nextByte s.oracle) }

theorem scanCell_same (now : Millis) (notify : Bool) (r : Row) (s : State) (c : Col)
    (h : s.btnCur[r.val] = s.btnPrev[r.val]) : scanCell now notify r s c = s := by
  rw [scanCell_eq]
  simp [risingEdge, fallingEdge, h]

/-- Everything one row of a scan does: sample, then look at the eight columns. The test whether the byte changed is only a shortcut
(rule R114). -/
theorem scanRow_eq (now : Millis) (notify : Bool) (s : State) (r : Row) :
    scanRow now notify s r = colOrder.foldl (scanCell now notify r) (sampledRowState s r) := by
  have e : ((shiftIn (s.setBtnPrev r s.btnCur[r.val])).2.setBtnCur r (shiftIn (s.setBtnPrev r s.btnCur[r.val])).1)
      = sampledRowState s r := by
    rw [shiftIn_eq]; rfl
  unfold scanRow
  simp only [e]
  split
  · rfl
  · rename_i h
    have h' : (sampledRowState s r).btnCur[r.val] = (sampledRowState s r).btnPrev[r.val] := by simpa using h
    simp [colOrder, scanCell_same _ _ _ _ _ h']

/-- The event words column `c` of a row gives, from the row bytes and timestamps of the state before the columns are looked at. -/
def columnEvents (s : State) (now : Millis) (notify : Bool) (r : Row) (c : Col) : List HistoryEvent :=
  if risingEdge s.btnPrev s.btnCur r c then (if notify then emitted s.lsn (.down r c) else [])
  else if fallingEdge s.btnPrev s.btnCur r c then
    (if notify then emitted s.lsn (.up r c (now - s.pressTs[r.val][c.val])) else [])
  else []

/-- A row's timestamps after the columns of `l` have been looked at. -/
def columnPressTs (s : State) (now : Millis) (r : Row) (l : List Col) : Vector Millis 8 :=
  Vector.ofFn fun c : Col => if c ∈ l ∧ risingEdge s.btnPrev s.btnCur r c = true then now else s.pressTs[r.val][c.val]

theorem columnPressTs_nil (s : State) (now : Millis) (r : Row) : s.pressTs.set r.val (columnPressTs s now r []) = s.pressTs := by
  ext i hi j hj
  by_cases h : r.val = i
  · subst h; simp [columnPressTs]
  · simp [h]

theorem columnPressTs_skip (s : State) (now : Millis) (r : Row) (c : Col) (l : List Col)
    (h : risingEdge s.btnPrev s.btnCur r c = false) : columnPressTs s now r (c :: l) = columnPressTs s now r l := by
  ext j hj
  simp only [columnPressTs, Vector.getElem_ofFn]
  by_cases hc : (⟨j, hj⟩ : Fin 8) = c <;> simp [hc, h]

/-- Everything the columns of a row do, in whatever order they are looked at once each. -/
theorem foldl_scanCell (now : Millis) (notify : Bool) (r : Row) (l : List Col) (hl : l.Nodup) (s : State) :
    l.foldl (scanCell now notify r) s =
      { s with
        pressTs := s.pressTs.set r.val (columnPressTs s now r l)
        hist := s.hist ++ l.flatMap (columnEvents s now notify r) } := by
  induction l generalizing s with
  | nil => simp [columnPressTs_nil]
  | cons c l ih =>
    rw [List.nodup_cons] at hl
    rw [List.foldl_cons, ih hl.2, scanCell_eq]
    cases h1 : risingEdge s.btnPrev s.btnCur r c with
    | true =>
      simp only [if_true, State.mk.injEq, true_and]
      constructor
      · ext i hi j hj
        by_cases h : r.val = i
        · subst h
          by_cases hc : c.val = j
          · subst hc; simp [columnPressTs, h1]
          · have : (⟨j, hj⟩ : Fin 8) ≠ c := fun e => hc (by rw [← e])
            simp [columnPressTs, this, hc]
        · simp [h]
      · have : ∀ d ∈ l, c.val ≠ d.val := fun d hd e => hl.1 (Fin.ext e ▸ hd)
        rw [List.flatMap_cons, List.append_assoc]
        simp only [columnEvents, h1, if_true]
        congr 2
        apply List.flatMap_congr
        intro d hd
        simp only [columnEvents]
        simp [this d hd]
    | false =>
      rw [columnPressTs_skip _ _ _ _ _ h1, List.flatMap_cons]
      cases h2 : fallingEdge s.btnPrev s.btnCur r c with
      | true => simp [columnEvents, h1, h2, columnPressTs]; rfl
      | false => simp [columnEvents, h1, h2]

/-- The event words of a row whose byte becomes `b`. -/
def rowEvents (s : State) (b : Byte) (now : Millis) (notify : Bool) (r : Row) : List HistoryEvent :=
  colOrder.flatMap fun c =>
    if !s.btnCur[r.val].getLsbD c.val && b.getLsbD c.val then (if notify then emitted s.lsn (.down r c) else [])
    else if s.btnCur[r.val].getLsbD c.val && !b.getLsbD c.val then
      (if notify then emitted s.lsn (.up r c (now - s.pressTs[r.val][c.val])) else [])
    else []

/-- The timestamps of a row whose byte becomes `b`. -/
def rowPressTs (s : State) (b : Byte) (now : Millis) (r : Row) : Vector Millis 8 :=
  Vector.ofFn fun c : Col => if !s.btnCur[r.val].getLsbD c.val && b.getLsbD c.val then now else s.pressTs[r.val][c.val]

/-- Everything one row of a scan does, field by field. -/
theorem scanRow_update (now : Millis) (notify : Bool) (s : State) (r : Row) :
    scanRow now notify s r =
      { s with
        btnPrev := s.btnPrev.set r.val s.btnCur[r.val]
        btnCur := s.btnCur.set r.val (nextByte s.oracle)
        pressTs := s.pressTs.set r.val (rowPressTs s (nextByte s.oracle) now r)
        pin := { s.pin with btnClk := true }
        oracle := s.oracle.drawBtnData 8
        hist := s.hist ++ shiftInEvents (nextByte s.oracle) ++ rowEvents s (nextByte s.oracle) now notify r } := by
  have hm : ∀ c : Col, c ∈ colOrder := by decide
  have e : columnEvents (sampledRowState s r) now notify r = fun c =>
      if !s.btnCur[r.val].getLsbD c.val && (nextByte s.oracle).getLsbD c.val then (if notify then emitted s.lsn (.down r c) else [])
      else if s.btnCur[r.val].getLsbD c.val && !(nextByte s.oracle).getLsbD c.val then
        (if notify then emitted s.lsn (.up r c (now - s.pressTs[r.val][c.val])) else [])
      else [] := by
    funext c
    simp [columnEvents, sampledRowState, risingEdge, fallingEdge]
  rw [scanRow_eq, foldl_scanCell _ _ _ _ (by decide), e]
  simp [sampledRowState, columnPressTs, rowPressTs, rowEvents, risingEdge, hm]

/-! ### Field by field (generated shape: one lemma for each field) -/

@[simp] theorem scanRow_btnCur (now : Millis) (notify : Bool) (s : State) (r : Row) :
    (scanRow now notify s r).btnCur = s.btnCur.set r.val (nextByte s.oracle) := by
  rw [scanRow_update]

@[simp] theorem scanRow_btnPrev (now : Millis) (notify : Bool) (s : State) (r : Row) :
    (scanRow now notify s r).btnPrev = s.btnPrev.set r.val s.btnCur[r.val] := by
  rw [scanRow_update]

@[simp] theorem scanRow_pressTs (now : Millis) (notify : Bool) (s : State) (r : Row) :
    (scanRow now notify s r).pressTs = s.pressTs.set r.val (rowPressTs s (nextByte s.oracle) now r) := by
  rw [scanRow_update]

@[simp] theorem scanRow_lastRead (now : Millis) (notify : Bool) (s : State) (r : Row) : (scanRow now notify s r).lastRead = s.lastRead := by
  rw [scanRow_update]

@[simp] theorem scanRow_led (now : Millis) (notify : Bool) (s : State) (r : Row) : (scanRow now notify s r).led = s.led := by
  rw [scanRow_update]

@[simp] theorem scanRow_frame (now : Millis) (notify : Bool) (s : State) (r : Row) : (scanRow now notify s r).frame = s.frame := by
  rw [scanRow_update]

@[simp] theorem scanRow_potQ (now : Millis) (notify : Bool) (s : State) (r : Row) : (scanRow now notify s r).potQ = s.potQ := by
  rw [scanRow_update]

@[simp] theorem scanRow_lsn (now : Millis) (notify : Bool) (s : State) (r : Row) : (scanRow now notify s r).lsn = s.lsn := by
  rw [scanRow_update]

@[simp] theorem scanRow_fault (now : Millis) (notify : Bool) (s : State) (r : Row) : (scanRow now notify s r).fault = s.fault := by
  rw [scanRow_update]

@[simp] theorem scanRow_result (now : Millis) (notify : Bool) (s : State) (r : Row) : (scanRow now notify s r).result = s.result := by
  rw [scanRow_update]

@[simp] theorem scanRow_pin (now : Millis) (notify : Bool) (s : State) (r : Row) :
    (scanRow now notify s r).pin = { s.pin with btnClk := true } := by
  rw [scanRow_update]

@[simp] theorem scanRow_shiftLevel (now : Millis) (notify : Bool) (s : State) (r : Row) : (scanRow now notify s r).shiftLevel = s.shiftLevel := by
  rw [scanRow_update]

@[simp] theorem scanRow_oracle (now : Millis) (notify : Bool) (s : State) (r : Row) :
    (scanRow now notify s r).oracle = s.oracle.drawBtnData 8 := by
  rw [scanRow_update]

@[simp] theorem scanRow_inbox (now : Millis) (notify : Bool) (s : State) (r : Row) : (scanRow now notify s r).inbox = s.inbox := by
  rw [scanRow_update]

@[simp] theorem scanRow_hist (now : Millis) (notify : Bool) (s : State) (r : Row) :
    (scanRow now notify s r).hist = s.hist ++ shiftInEvents (nextByte s.oracle) ++ rowEvents s (nextByte s.oracle) now notify r := by
  rw [scanRow_update]

end Sys2Proof.Machine
end

