-- ==== Sys2Proof/Laws/Leds.lean ====
section
/-! SUPPORT. What one row of an LED write can do, once. -/

namespace Sys2Proof.Machine

theorem ledByte_eq_shownByte (s : State) (r : Row) : ledByte s r = shownByte s r := by
  unfold ledByte shownByte
  have h : s.frame.getLsbD 0 = decide (s.frame.toNat % 2 = 1) := by
    simp [BitVec.getLsbD, Nat.testBit_zero]
  rw [h]
  rcases Nat.mod_two_eq_zero_or_one s.frame.toNat with e | e <;> simp [e]

/-- Everything one row of a write does: its byte's 24 events, its bit 7 left on the data line, the clock low. -/
theorem writeLedRow_eq (s : State) (r : Row) :
    writeLedRow s r =
      { s with
        pin := { s.pin with ledData := (shownByte s r).getLsbD 7, ledClk := false }
        hist := s.hist ++ shiftOutEvents .lsbFirst (shownByte s r) } := by
  rw [writeLedRow, shiftOut_eq, ledByte_eq_shownByte]
  rfl

/-! ### Field by field (generated shape: one lemma for each field) -/

@[simp] theorem writeLedRow_btnCur (s : State) (r : Row) : (writeLedRow s r).btnCur = s.btnCur := by
  rw [writeLedRow_eq]

@[simp] theorem writeLedRow_btnPrev (s : State) (r : Row) : (writeLedRow s r).btnPrev = s.btnPrev := by
  rw [writeLedRow_eq]

@[simp] theorem writeLedRow_pressTs (s : State) (r : Row) : (writeLedRow s r).pressTs = s.pressTs := by
  rw [writeLedRow_eq]

@[simp] theorem writeLedRow_lastRead (s : State) (r : Row) : (writeLedRow s r).lastRead = s.lastRead := by
  rw [writeLedRow_eq]

@[simp] theorem writeLedRow_led (s : State) (r : Row) : (writeLedRow s r).led = s.led := by
  rw [writeLedRow_eq]

@[simp] theorem writeLedRow_frame (s : State) (r : Row) : (writeLedRow s r).frame = s.frame := by
  rw [writeLedRow_eq]

@[simp] theorem writeLedRow_potQ (s : State) (r : Row) : (writeLedRow s r).potQ = s.potQ := by
  rw [writeLedRow_eq]

@[simp] theorem writeLedRow_lsn (s : State) (r : Row) : (writeLedRow s r).lsn = s.lsn := by
  rw [writeLedRow_eq]

@[simp] theorem writeLedRow_fault (s : State) (r : Row) : (writeLedRow s r).fault = s.fault := by
  rw [writeLedRow_eq]

@[simp] theorem writeLedRow_result (s : State) (r : Row) : (writeLedRow s r).result = s.result := by
  rw [writeLedRow_eq]

@[simp] theorem writeLedRow_pin (s : State) (r : Row) :
    (writeLedRow s r).pin = { s.pin with ledData := (shownByte s r).getLsbD 7, ledClk := false } := by
  rw [writeLedRow_eq]

@[simp] theorem writeLedRow_shiftLevel (s : State) (r : Row) : (writeLedRow s r).shiftLevel = s.shiftLevel := by
  rw [writeLedRow_eq]

@[simp] theorem writeLedRow_oracle (s : State) (r : Row) : (writeLedRow s r).oracle = s.oracle := by
  rw [writeLedRow_eq]

@[simp] theorem writeLedRow_inbox (s : State) (r : Row) : (writeLedRow s r).inbox = s.inbox := by
  rw [writeLedRow_eq]

@[simp] theorem writeLedRow_hist (s : State) (r : Row) :
    (writeLedRow s r).hist = s.hist ++ shiftOutEvents .lsbFirst (shownByte s r) := by
  rw [writeLedRow_eq]

end Sys2Proof.Machine
end

