-- ==== Sys2Proof/Laws/PerInstr.lean ====
section
/-! SUPPORT. One lemma for each constructor of `Instr`: the word the encoder gives it is accepted by the row of the opcode map that
bears its mnemonic (spec/30_encoding.md rule R84). -/

namespace Sys2Proof.Laws.AcceptedByRow

/-- The encoded word of `i` matches every row of the opcode map with `i`'s mnemonic, and there is one. -/
def Statement (i : Instr) : Prop :=
  (opcodeMap.filter fun row => row.mnemonic == i.mnemonic).length = 1 ∧
    ∀ row ∈ opcodeMap, row.mnemonic = i.mnemonic → row.accepts (encode i) = true

theorem init : Statement .init := by unfold Statement; decide

theorem read : Statement .read := by unfold Statement; decide

theorem write : Statement .write := by unfold Statement; decide

theorem rdbtn : Statement .rdbtn := by unfold Statement; decide

theorem rdpot : Statement .rdpot := by unfold Statement; decide

theorem wrled : Statement .wrled := by unfold Statement; decide

theorem shin : Statement .shin := by unfold Statement; decide

theorem shout (order : BitOrder) (value : Byte) : Statement (.shout order value) := by
  refine ⟨by simp [opcodeMap, Instr.mnemonic], ?_⟩
  simp only [opcodeMap, Instr.mnemonic, List.forall_mem_cons, OpcodeRow.accepts, encode]
  cases order <;> revert value <;> decide

theorem setled (row col : BitVec 3) (val : Bool) : Statement (.setled row col val) := by
  refine ⟨by simp [opcodeMap, Instr.mnemonic], ?_⟩
  simp only [opcodeMap, Instr.mnemonic, List.forall_mem_cons, OpcodeRow.accepts, encode]
  revert row col val
  decide

theorem setrow (row : BitVec 3) (value : Byte) : Statement (.setrow row value) := by
  refine ⟨by simp [opcodeMap, Instr.mnemonic], ?_⟩
  simp only [opcodeMap, Instr.mnemonic, List.forall_mem_cons, OpcodeRow.accepts, encode]
  revert row value
  decide +kernel

theorem getbtn (row col : BitVec 3) : Statement (.getbtn row col) := by
  refine ⟨by simp [opcodeMap, Instr.mnemonic], ?_⟩
  simp only [opcodeMap, Instr.mnemonic, List.forall_mem_cons, OpcodeRow.accepts, encode]
  revert row col
  decide

theorem listen (slot : BitVec 2) (en : Bool) : Statement (.listen slot en) := by
  refine ⟨by simp [opcodeMap, Instr.mnemonic], ?_⟩
  simp only [opcodeMap, Instr.mnemonic, List.forall_mem_cons, OpcodeRow.accepts, encode]
  revert slot en
  decide

theorem getcfg (k : BitVec 2) : Statement (.getcfg k) := by
  refine ⟨by simp [opcodeMap, Instr.mnemonic], ?_⟩
  simp only [opcodeMap, Instr.mnemonic, List.forall_mem_cons, OpcodeRow.accepts, encode]
  revert k
  decide

end Sys2Proof.Laws.AcceptedByRow
end

