-- ==== Sys2Proof/Laws/Pots.lean ====
section
/-! SUPPORT. What one channel of a pot pass can do, once; the bounds of its arithmetic. -/

namespace Sys2Proof.Machine

theorem selectChannel_eq (s : State) (ch : Chan) :
    selectChannel s ch =
      { s with
        pin := { s.pin with sel := #v[selBit ch 0, selBit ch 1, selBit ch 2] }
        hist := s.hist ++ selectEvents ch } := by
  have h : ∀ (v : Vector Bool 3) (a b c : Bool), ((v.set 0 a).set 1 b).set 2 c = #v[a, b, c] := by decide
  simp [selectChannel, selOrder, State.pinWrite, Pins.drive, selectEvents, selBit, h]

/-- Everything the filter does with a raw sample: a changed bucket is reported and stored; storing an unchanged one changes nothing. -/
theorem filterPot_eq (ch : Chan) (raw : Raw) (s : State) :
    filterPot ch raw s = { s with potQ := s.potQ.set ch.val (potBucket raw), hist := s.hist ++ potEvents s ch raw } := by
  unfold filterPot potEvents
  by_cases h : potBucket raw = s.potQ[ch.val]
  · simp [h]
  · simp [h, State.emit, State.setPotQ]

/-- Everything one channel of a pass does. -/
theorem readPot_eq (s : State) (ch : Chan) :
    readPot s ch =
      { s with
        pin := { s.pin with sel := #v[selBit ch 0, selBit ch 1, selBit ch 2] }
        potQ := s.potQ.set ch.val (potBucket (s.oracle.ainAt 0))
        oracle := s.oracle.drawAin 1
        hist := s.hist ++ (selectEvents ch ++ .a (s.oracle.ainAt 0) :: potEvents s ch (s.oracle.ainAt 0)) } := by
  simp [readPot, filterPot_eq, selectChannel_eq, State.analogSample, State.nextAin, potEvents]

theorem clamp_bounds (raw : Raw) : 25 ≤ clamp raw ∧ clamp raw ≤ 1000 := by
  unfold clamp analogRangeMin analogRangeMax
  split
  · omega
  · split <;> omega

theorem rescale_toNat {c : Nat} (h : c ≤ 1000) : (rescale c).toNat = (c - 25) * 1023 / 975 := by
  simp only [rescale, analogRangeMin, analogRangeMax, outMax, BitVec.toNat_ofNat]
  omega

theorem quantize_toNat (v : BitVec 10) : (quantize v).toNat = v.toNat / 8 := by
  simp only [quantize, quantShift, BitVec.toNat_setWidth, BitVec.toNat_ushiftRight, Nat.shiftRight_eq_div_pow]
  omega

/-! ### Field by field (generated shape: one lemma for each field) -/

@[simp] theorem readPot_btnCur (s : State) (ch : Chan) : (readPot s ch).btnCur = s.btnCur := by
  rw [readPot_eq]

@[simp] theorem readPot_btnPrev (s : State) (ch : Chan) : (readPot s ch).btnPrev = s.btnPrev := by
  rw [readPot_eq]

@[simp] theorem readPot_pressTs (s : State) (ch : Chan) : (readPot s ch).pressTs = s.pressTs := by
  rw [readPot_eq]

@[simp] theorem readPot_lastRead (s : State) (ch : Chan) : (readPot s ch).lastRead = s.lastRead := by
  rw [readPot_eq]

@[simp] theorem readPot_led (s : State) (ch : Chan) : (readPot s ch).led = s.led := by
  rw [readPot_eq]

@[simp] theorem readPot_frame (s : State) (ch : Chan) : (readPot s ch).frame = s.frame := by
  rw [readPot_eq]

@[simp] theorem readPot_potQ (s : State) (ch : Chan) :
    (readPot s ch).potQ = s.potQ.set ch.val (potBucket (s.oracle.ainAt 0)) := by
  rw [readPot_eq]

@[simp] theorem readPot_lsn (s : State) (ch : Chan) : (readPot s ch).lsn = s.lsn := by
  rw [readPot_eq]

@[simp] theorem readPot_fault (s : State) (ch : Chan) : (readPot s ch).fault = s.fault := by
  rw [readPot_eq]

@[simp] theorem readPot_result (s : State) (ch : Chan) : (readPot s ch).result = s.result := by
  rw [readPot_eq]

@[simp] theorem readPot_pin (s : State) (ch : Chan) :
    (readPot s ch).pin = { s.pin with sel := #v[selBit ch 0, selBit ch 1, selBit ch 2] } := by
  rw [readPot_eq]

@[simp] theorem readPot_shiftLevel (s : State) (ch : Chan) : (readPot s ch).shiftLevel = s.shiftLevel := by
  rw [readPot_eq]

@[simp] theorem readPot_oracle (s : State) (ch : Chan) :
    (readPot s ch).oracle = s.oracle.drawAin 1 := by
  rw [readPot_eq]

@[simp] theorem readPot_inbox (s : State) (ch : Chan) : (readPot s ch).inbox = s.inbox := by
  rw [readPot_eq]

@[simp] theorem readPot_hist (s : State) (ch : Chan) :
    (readPot s ch).hist = s.hist ++ (selectEvents ch ++ .a (s.oracle.ainAt 0) :: potEvents s ch (s.oracle.ainAt 0)) := by
  rw [readPot_eq]

end Sys2Proof.Machine
end

