-- ==== Sys2Proof/Laws/Reference.lean ====
section
/-! SUPPORT. What one thing that happens can do to the reference environment, and how a timeline is followed piece by piece. -/

namespace Sys2Proof.Machine

/-! ## The devices -/

@[simp] theorem capturedFrame_getElem (phys : Vector (Vector Bool 8) 5) (n : Nat) (h : n < 40) :
    (capturedFrame phys)[n] = (phys[4 - n / 8]'(by omega))[n % 8]'(by omega) := by
  simp [capturedFrame]

@[simp] theorem shiftedHead_val (head : Fin 41) : (shiftedHead head).val = min (head.val + 1) 40 := rfl

@[simp] theorem shiftedBits_getElem (lsr : Vector Bool 40) (b : Bool) (n : Nat) (h : n < 40) :
    (shiftedBits lsr b)[n] = if h' : n < 39 then lsr[n + 1] else b := by
  simp [shiftedBits]

@[simp] theorem shownLeds_getElem (lsr : Vector Bool 40) (r : Row) (c : Col) :
    (shownLeds lsr)[r.val][c.val] = lsr[8 * r.val + (7 - c.val)]'(by omega) := by
  simp [shownLeds]

/-! ## A pin write, field by field -/

@[simp] theorem Env.pinWritten_pin (v : Env) (p : Pin) (b : Bool) : (v.pinWritten p b).pin = v.pin.drive p b := by
  cases p <;> simp only [Env.pinWritten] <;> (try split) <;> rfl

@[simp] theorem Env.pinWritten_shiftLevel (v : Env) (p : Pin) (b : Bool) : (v.pinWritten p b).shiftLevel = v.shiftLevel := by
  cases p <;> simp only [Env.pinWritten] <;> (try split) <;> rfl

@[simp] theorem Env.pinWritten_physBtn (v : Env) (p : Pin) (b : Bool) : (v.pinWritten p b).physBtn = v.physBtn := by
  cases p <;> simp only [Env.pinWritten] <;> (try split) <;> rfl

@[simp] theorem Env.pinWritten_physPot (v : Env) (p : Pin) (b : Bool) : (v.pinWritten p b).physPot = v.physPot := by
  cases p <;> simp only [Env.pinWritten] <;> (try split) <;> rfl

@[simp] theorem Env.pinWritten_clockMs (v : Env) (p : Pin) (b : Bool) : (v.pinWritten p b).clockMs = v.clockMs := by
  cases p <;> simp only [Env.pinWritten] <;> (try split) <;> rfl

@[simp] theorem Env.gsioReset_pin (v : Env) : v.gsioReset.pin = Pins.reset v.shiftLevel := rfl

@[simp] theorem Env.gsioReset_shiftLevel (v : Env) : v.gsioReset.shiftLevel = v.shiftLevel := rfl

@[simp] theorem Env.gsioReset_lsr (v : Env) : v.gsioReset.lsr = v.lsr := rfl

@[simp] theorem Env.gsioReset_lout (v : Env) : v.gsioReset.lout = v.lout := rfl

/-! ## What can happen, once -/

/-- Either the event is no pin write and its answer is one the environment gives, which it leaves as it is; or it is a pin write. -/
theorem Env.observe_cases {v v' : Env} {h : HistoryEvent} (ho : v.observe h = some v') :
    (∃ p b, h = .w p b ∧ v' = v.pinWritten p b) ∨
    (v' = v ∧ ((∃ b, h = .r .btnData b ∧ b = v.btnBit) ∨ (∃ raw, h = .a raw ∧ v.givesRaw raw = true) ∨
      (∃ ms, h = .t ms ∧ ms = v.now) ∨ (∃ n, h = .d n) ∨ (∃ word, h = .e word) ∨ ∃ value, h = .res value)) := by
  cases h with
  | w p b => exact .inl ⟨p, b, rfl, (Option.some.inj ho).symm⟩
  | r p b =>
    cases p
    simp only [Env.observe] at ho
    split at ho
    · exact .inr ⟨(Option.some.inj ho).symm, .inl ⟨b, rfl, ‹_›⟩⟩
    · cases ho
  | a raw =>
    simp only [Env.observe] at ho
    split at ho
    · exact .inr ⟨(Option.some.inj ho).symm, .inr (.inl ⟨raw, rfl, ‹_›⟩)⟩
    · cases ho
  | t ms =>
    simp only [Env.observe] at ho
    split at ho
    · exact .inr ⟨(Option.some.inj ho).symm, .inr (.inr (.inl ⟨ms, rfl, ‹_›⟩))⟩
    · cases ho
  | d n => exact .inr ⟨(Option.some.inj ho).symm, .inr (.inr (.inr (.inl ⟨n, rfl⟩)))⟩
  | e word => exact .inr ⟨(Option.some.inj ho).symm, .inr (.inr (.inr (.inr (.inl ⟨word, rfl⟩))))⟩
  | res value => exact .inr ⟨(Option.some.inj ho).symm, .inr (.inr (.inr (.inr (.inr ⟨value, rfl⟩))))⟩

/-- What happens in the world behind the pins is never refused and touches neither pins nor cascades. -/
theorem Env.react_world (v : Env) {e : WorldEvent} (he : e.ofGsio = false) :
    ∃ v', v.react e = some v' ∧ v'.shiftLevel = v.shiftLevel ∧ v'.pin = v.pin ∧ v'.bq = v.bq ∧ v'.bhead = v.bhead ∧ v'.lsr = v.lsr ∧
      v'.lout = v.lout := by
  cases e with
  | seen h => cases he
  | reset => cases he
  | button r c held => exact ⟨_, rfl, rfl, rfl, rfl, rfl, rfl, rfl⟩
  | turn ch raw => exact ⟨_, rfl, rfl, rfl, rfl, rfl, rfl, rfl⟩
  | elapse ms => exact ⟨_, rfl, rfl, rfl, rfl, rfl, rfl, rfl⟩

/-- A pot value changes only when its potentiometer is turned. -/
theorem Env.react_physPot {v v' : Env} {e : WorldEvent} (hr : v.react e = some v') (ht : ∀ ch raw, e ≠ .turn ch raw) :
    v'.physPot = v.physPot := by
  cases e with
  | seen h =>
    obtain ⟨p, b, -, rfl⟩ | ⟨rfl, -⟩ := Env.observe_cases hr
    · simp
    · rfl
  | reset => cases hr; rfl
  | button r c held => cases hr; rfl
  | turn ch raw => exact absurd rfl (ht ch raw)
  | elapse ms => cases hr; rfl

/-! ## Timelines -/

@[simp] theorem Env.follow_nil (v : Env) : v.follow [] = some v := rfl

@[simp] theorem Env.follow_cons (v : Env) (e : WorldEvent) (rest : List WorldEvent) :
    v.follow (e :: rest) = (v.react e).bind fun m => m.follow rest := by
  simp [Env.follow, List.foldlM_cons]

theorem Env.follow_append (v : Env) (before after : List WorldEvent) :
    v.follow (before ++ after) = (v.follow before).bind fun m => m.follow after := by
  simp [Env.follow, List.foldlM_append]

@[simp] theorem seenEvents_nil : seenEvents [] = [] := rfl

@[simp] theorem seenEvents_cons (h : HistoryEvent) (hs : List HistoryEvent) : seenEvents (h :: hs) = .seen h :: seenEvents hs := rfl

@[simp] theorem seenEvents_append (as bs : List HistoryEvent) : seenEvents (as ++ bs) = seenEvents as ++ seenEvents bs := by
  simp [seenEvents]

@[simp] theorem gsioPart_append (as bs : List WorldEvent) : gsioPart (as ++ bs) = gsioPart as ++ gsioPart bs := by
  simp [gsioPart]

@[simp] theorem gsioPart_seenEvents (hs : List HistoryEvent) : gsioPart (seenEvents hs) = seenEvents hs := by
  simp [gsioPart, seenEvents, WorldEvent.ofGsio, List.filter_eq_self]

end Sys2Proof.Machine
end

