-- ==== Sys2Proof/Laws/Step.lean ====
section
/-! SUPPORT. How a command word is admitted and what an input can do: one inversion lemma each. -/

namespace Sys2Proof.Machine

/-- A faulted GSIO discards the word (rule R173). -/
theorem issueWith_faulted (run : Instr → State → Host.Outcome State Fault Refusal) (w : CmdWord) {s : State} (h : s.faulted = true) :
    issueWith run w s = .next s := by
  simp [issueWith, h]

theorem issueWith_illegal (run : Instr → State → Host.Outcome State Fault Refusal) {w : CmdWord} {e : DecodeError} {s : State}
    (h : s.faulted = false) (hd : decode w = .error e) : issueWith run w s = .next (s.raiseFault .illegal) := by
  simp [issueWith, h, hd]

theorem issueWith_ok (run : Instr → State → Host.Outcome State Fault Refusal) {w : CmdWord} {i : Instr} {s : State}
    (h : s.faulted = false) (hd : decode w = .ok i) : issueWith run w s = run i s := by
  simp [issueWith, h, hd]

/-- The three things an issued word can do. -/
theorem issueWith_cases (run : Instr → State → Host.Outcome State Fault Refusal) (w : CmdWord) (s : State) :
    (s.faulted = true ∧ issueWith run w s = .next s) ∨
    (s.faulted = false ∧ (∃ e, decode w = .error e) ∧ issueWith run w s = .next (s.raiseFault .illegal)) ∨
    (s.faulted = false ∧ ∃ i, decode w = .ok i ∧ issueWith run w s = run i s) := by
  cases hf : s.faulted with
  | true => exact .inl ⟨rfl, issueWith_faulted run w hf⟩
  | false =>
    cases hd : decode w with
    | error e => exact .inr (.inl ⟨rfl, ⟨e, rfl⟩, issueWith_illegal run hf hd⟩)
    | ok i => exact .inr (.inr ⟨rfl, i, rfl, issueWith_ok run hf hd⟩)

theorem step_idle {s : State} (h : s.inbox = []) : step s = .next s := by
  simp [step, h]

theorem step_cons {s : State} {input : HostInput} {rest : List HostInput} (h : s.inbox = input :: rest) :
    step s = takeInput exec input { s with inbox := rest } := by
  simp [step, h]

/-- A range-checked command either raises `Fault(RANGE)` or runs on its legal operand. -/
theorem rangeChecked_none {α : Type} (s : State) (legal : α → State) : s.rangeChecked none legal = s.raiseFault .range := rfl

theorem rangeChecked_some {α : Type} (s : State) (a : α) (legal : α → State) : s.rangeChecked (some a) legal = legal a := rfl

end Sys2Proof.Machine
end

