-- ==== Sys2Proof/Tests/Slice0.lean ====
section
/-! SUPPORT. The model's own tests. Expected results are those of spec/95_test_vectors.md (the section is named beside each) or worked
by hand from the rule named; and one witness for every statement that has hypotheses. -/

namespace Sys2Proof.Tests

open Sys2Proof.Machine

/-- The next state, if there is one. -/
def nextOf : Host.Outcome State Fault Refusal → Option State
  | .next t => some t
  | .fault _ => none
  | .refused _ => none

/-- The reset state with shift level 1, as the vectors of spec/95_test_vectors.md take it. -/
def base : State := State.resetAt true

/-- A state with these scripted answers: the frame of a scan from its five row bytes (row 4 first), raw samples, clock samples. -/
def scripted (s : State) (rows : List Byte) (raws : List Raw) (times : List Millis) : State :=
  { s with oracle := ⟨⟨rows.flatMap fun v => (List.range 8).map v.getLsbD, 0⟩, ⟨raws, 0⟩, ⟨times, 0⟩⟩ }

/-- A state whose next input is this command word. -/
def issued (s : State) (w : CmdWord) : State := { s with inbox := [.cmd w] }

/-! ## Well-formedness refuses -/

theorem test_wellFormed_refuses_setled_row5 : (Instr.setled 5 2 true).wellFormed = false := by decide

theorem test_wellFormed_refuses_setrow_row7 : (Instr.setrow 7 0xFF).wellFormed = false := by decide

theorem test_wellFormed_refuses_getbtn_row6 : (Instr.getbtn 6 0).wellFormed = false := by decide

theorem test_wellFormed_refuses_listen_slot3 : (Instr.listen 3 false).wellFormed = false := by decide

theorem test_wellFormed_refuses_getcfg_k3 : (Instr.getcfg 3).wellFormed = false := by decide

theorem test_wellFormed_accepts_row4 : (Instr.setled 4 7 false).wellFormed = true := by decide

/-! ## Decoding (section 2.1) -/

theorem test_decode_init : decode 0b0001000000000000 = .ok .init := by decide

theorem test_decode_read : decode 0b0010000000000000 = .ok .read := by decide

theorem test_decode_write : decode 0b0011000000000000 = .ok .write := by decide

theorem test_decode_rdbtn : decode 0b0100000000000000 = .ok .rdbtn := by decide

theorem test_decode_rdpot : decode 0b0101000000000000 = .ok .rdpot := by decide

theorem test_decode_wrled : decode 0b0110000000000000 = .ok .wrled := by decide

theorem test_decode_shin : decode 0b0111000000000000 = .ok .shin := by decide

theorem test_decode_shout_lsb : decode 0b1000000000000101 = .ok (.shout .lsbFirst 0x05) := by decide

theorem test_decode_shout_msb : decode 0b1000000100000101 = .ok (.shout .msbFirst 0x05) := by decide

theorem test_decode_setled : decode 0b1001000100100001 = .ok (.setled 1 2 true) := by decide

theorem test_decode_setled_far : decode 0b1001010001110000 = .ok (.setled 4 7 false) := by decide

theorem test_decode_setrow : decode 0b1010010010100101 = .ok (.setrow 4 0xA5) := by decide

theorem test_decode_getbtn : decode 0b1011001000110000 = .ok (.getbtn 2 3) := by decide

theorem test_decode_listen : decode 0b1100001000000001 = .ok (.listen 2 true) := by decide

theorem test_decode_getcfg : decode 0b1101000100000000 = .ok (.getcfg 1) := by decide

theorem test_decode_unassigned :
    [0x0000, 0xFFFF, 0xE000].map decode = List.replicate 3 (.error .unassignedOpcode) := by decide

theorem test_decode_reserved :
    [0x1001, 0x8205, 0x9129, 0xA8FF, 0xB231, 0xC003, 0xD001, 0x9D29].map decode = List.replicate 8 (.error .reservedBitSet) := by decide

theorem test_decode_out_of_range :
    [0x9521, 0xA5FF, 0xA7FF, 0xB730, 0xC300, 0xD300].map classify = List.replicate 6 .rangeFault := by decide

theorem test_encode_words :
    [Instr.init, .shout .msbFirst 5, .setled 1 2 true, .setrow 4 0xA5, .getbtn 2 3, .listen 2 true, .getcfg 2].map encode =
      [0x1000, 0x8105, 0x9121, 0xA4A5, 0xB230, 0xC201, 0xD200] := by decide

theorem test_decodeTableWord : decodeTableWord 16 0x9121 = some (.setled 1 2 true) := by decide

/-- Rule R84: no two rows of the opcode map accept one word (they differ in bits both masks keep). -/
theorem test_opcodeMap_rows_disjoint :
    opcodeMap.Pairwise fun a b => (a.mask &&& b.mask &&& (a.pattern ^^^ b.pattern)) ≠ 0 := by decide

/-- Rule R90: a line with symbolic operands. -/
theorem test_assemble_line : assembleLine "LISTEN" [.sym "POT", .num 1] = some (.listen 2 true) := by decide

theorem test_assemble_refuses_row5 : assembleLine "SETROW" [.num 5, .num 1] = none := by decide

/-! ## The codec (section 2.2) -/

theorem test_shin_first_sample_is_bit0 :
    (nextOf (exec .shin (scripted base [0x0D] [] []))).map (fun t => (t.result, t.pin.btnClk, t.pin.btnLatch)) =
      some (0x0D, true, false) := by decide

theorem test_shin_history :
    (nextOf (exec .shin (scripted base [0x01] [] []))).map (fun t => (t.hist.take 8, t.hist.length, t.hist.getLast?)) =
      some ([.w .btnClk false, .d 2, .r .btnData true, .w .btnClk true, .w .btnClk false, .d 2, .r .btnData false, .w .btnClk true],
        33, some (.res 1)) := by decide

theorem test_shout_lsb :
    (nextOf (exec (.shout .lsbFirst 0x05) base)).map (fun t => drivenLevels .ledData t.hist) =
      some [true, false, true, false, false, false, false, false] := by decide

theorem test_shout_msb :
    (nextOf (exec (.shout .msbFirst 0x05) base)).map (fun t => (t.hist.take 3, drivenLevels .ledData t.hist, t.pin.ledData)) =
      some ([.w .ledData false, .w .ledClk true, .w .ledClk false], [false, false, false, false, false, true, false, true], true) := by
  decide

/-! ## Buttons (sections 2.3, 2.4) -/

theorem test_guard_table :
    ([(100, 100), (100, 109), (100, 110), (0, 9), (0, 10), (4294967290, 3), (4294967290, 4), (4294967295, 0), (500, 100)] :
      List (Millis × Millis)).map (fun p => throttled p.2 p.1) =
      [true, true, false, true, false, true, false, true, false] := by decide

/-- V-multi: the state before. -/
def multi : State :=
  scripted { base with
    btnCur := #v[0x81, 0x00, 0xFF, 0x00, 0x10]
    pressTs := #v[#v[40, 0, 0, 0, 0, 0, 0, 50], Vector.replicate 8 0, #v[0, 10, 20, 30, 40, 50, 60, 70], Vector.replicate 8 0,
      #v[0, 0, 0, 0, 60, 0, 0, 0]]
    lastRead := 1000
    lsn := 0b111 } [0x90, 0x04, 0x0F, 0x00, 0x82] [] [2000]

/-- V-multi: top row first, columns ascending, an UP before a DOWN in row 0. -/
theorem test_rdbtn_multi_events :
    (nextOf (exec .rdbtn multi)).map (fun t => (deliveredWords t.hist, t.hist.length)) =
      some ([0x6700000000, 0x5A00000000, 0x94000007A8, 0x950000079E, 0x9600000794, 0x970000078A, 0x80000007A8, 0x4100000000], 171) := by
  decide +kernel

theorem test_rdbtn_multi_state :
    (nextOf (exec .rdbtn multi)).map (fun t => (t.btnCur, t.btnPrev, t.pressTs[4][7], t.pressTs[0][0], t.lastRead)) =
      some (#v[0x82, 0x00, 0x0F, 0x04, 0x90], #v[0x81, 0x00, 0xFF, 0x00, 0x10], 2000, 40, 2000) := by decide +kernel

/-- Rule R118's example: INIT at 7 with button (0,0) held; no event although every listener is set. -/
theorem test_init_silent :
    (nextOf (exec .init (scripted { base with lsn := 0b111 } [0, 0, 0, 0, 1] [] [7]))).map
      (fun t => (t.btnCur[0], t.pressTs[0][0], t.lastRead, deliveredWords t.hist)) = some (1, 7, 7, []) := by decide +kernel

/-- V-level0: with shift level 0 the latch is driven low, then high. -/
theorem test_init_level0 :
    (nextOf (exec .init (scripted (State.resetAt false) [0, 0, 0, 0, 0] [] [50]))).map
      (fun t => (drivenLevels .btnLatch t.hist, t.pin.btnLatch, t.hist.length)) = some ([false, true], true, 163) := by decide +kernel

theorem test_getbtn_pressed :
    (nextOf (exec (.getbtn 2 3) { base with btnCur := #v[0, 0, 8, 0, 0] })).map (·.result) = some 1 := by decide

theorem test_getbtn_not_mirrored :
    (nextOf (exec (.getbtn 2 4) { base with btnCur := #v[0, 0, 8, 0, 0] })).map (fun t => (t.result, t.hist)) = some (0, [.res 0]) := by
  decide

/-! ## LEDs (section 2.5) -/

theorem test_setled_sets_bit5 : (nextOf (exec (.setled 1 2 true) base)).map (·.led) = some #v[0, 0x20, 0, 0, 0] := by decide

theorem test_setled_clears_bit3 :
    (nextOf (exec (.setled 3 4 false) { base with led := #v[0, 0, 0, 0xFF, 0] })).map (·.led[3]) = some 0xF7 := by decide

theorem test_setrow : (nextOf (exec (.setrow 4 0xA5) base)).map (fun t => (t.led, t.hist)) = some (#v[0, 0, 0, 0, 0xA5], []) := by decide

theorem test_wrled_even :
    (nextOf (exec .wrled { base with frame := 254, led := #v[0xFF, 0x01, 0x80, 0, 0] })).map
      (fun t => ((drivenLevels .ledData t.hist).take 24, t.frame, t.hist.length)) =
      some ([true, true, true, true, true, true, true, true, true, false, false, false, false, false, false, false,
        false, false, false, false, false, false, false, true], 254, 122) := by decide +kernel

theorem test_write_odd_wraps :
    (nextOf (exec .write { base with frame := 255, led := Vector.replicate 5 0xFF })).map
      (fun t => (drivenLevels .ledData t.hist, t.frame, t.pin.ledLatch)) = some (List.replicate 40 false, 0, true) := by decide +kernel

/-! ## Potentiometers (section 2.6, program P3) -/

theorem test_pot_table :
    ([0, 10, 24, 25, 26, 32, 33, 100, 500, 511, 512, 513, 515, 520, 700, 999, 1000, 1001, 1500, 65535] : List Raw).map
      (fun raw => ((potValue raw).toNat, (potBucket raw).toNat)) =
      [(0, 0), (0, 0), (0, 0), (0, 0), (1, 0), (7, 0), (8, 1), (78, 9), (498, 62), (509, 63), (510, 63), (512, 64), (514, 64), (519, 64),
        (708, 88), (1021, 127), (1023, 127), (1023, 127), (1023, 127), (1023, 127)] := by decide +kernel

theorem test_rdpot_first_pass :
    (nextOf (exec .rdpot (scripted { base with lsn := 0b100 } [] [10, 25, 512, 1000, 1500, 33] []))).map
      (fun t => (deliveredWords t.hist, t.potQ, t.pin.sel)) =
      some ([0xD0000001FE, 0xD8000003FF, 0xE0000003FF, 0xE800000008], #v[0, 0, 63, 127, 127, 1], #v[true, false, true]) := by
  decide +kernel

/-- No replay: with the listener unset the bucket is stored and nothing is delivered. -/
theorem test_rdpot_unset_listener :
    (nextOf (exec .rdpot (scripted base [] [10, 25, 512, 1000, 1500, 33] []))).map (fun t => (deliveredWords t.hist, t.potQ[2])) =
      some ([], 63) := by decide +kernel

/-! ## The coordinator (program P4) -/

/-- P4 command 7: the clock wraps, a button held at INIT is released. -/
theorem test_read_clock_wrap :
    (nextOf (exec .read (scripted { base with
        btnCur := #v[1, 0, 0, 0x80, 0], pressTs := (Vector.replicate 5 (Vector.replicate 8 0)).set 0 (#v[7, 0, 0, 0, 0, 0, 0, 0])
        lastRead := 30, lsn := 0b111, potQ := #v[0, 88, 0, 0, 0, 0] } [0, 0x80, 0, 0, 0] [0, 700, 0, 0, 0, 0] [3]))).map
      (fun t => (deliveredWords t.hist, t.lastRead)) = some ([0x80FFFFFFFC], 3) := by decide +kernel

/-- P4 command 3: throttled, the pots are read all the same. -/
theorem test_read_throttled :
    (nextOf (exec .read (scripted { base with lastRead := 7 } [] [0, 0, 0, 0, 0, 0] [12]))).map
      (fun t => (t.hist.length, t.lastRead, drivenLevels .btnLatch t.hist)) = some (25, 7, []) := by decide +kernel

theorem test_listen_sets_and_clears :
    (nextOf (exec (.listen 2 true) base)).map (·.lsn) = some 0b100 ∧
      (nextOf (exec (.listen 0 false) { base with lsn := 0b111 })).map (·.lsn) = some 0b110 := by decide

theorem test_getcfg :
    [0, 1, 2].map (fun k => (nextOf (exec (.getcfg k) base)).map (·.result)) = [some 5, some 8, some 6] := by decide

/-! ## Events, faults, reset (section 2.7, program P5) -/

theorem test_event_words :
    [Event.down 2 3, .up 2 3 380, .up 0 0 4294967292, .pot 2 510, .pot 5 1023].map eventWord =
      [0x5300000000, 0x930000017C, 0x80FFFFFFFC, 0xD0000001FE, 0xE8000003FF] := by decide

theorem test_range_fault : (nextOf (step (issued base 0xA5FF))).map (fun t => (t.fault, t.led, t.hist)) =
    some (0b10, Vector.replicate 5 0, []) := by decide

theorem test_illegal_fault : (nextOf (step (issued base 0x9D29))).map (·.fault) = some 0b01 := by decide

/-- P5 command 4: a second bad word does not set a second bit. -/
theorem test_faulted_refuses : (nextOf (step (issued { base with fault := 0b10 } 0x0000))).map (·.fault) = some 0b10 := by decide

theorem test_reset_leaves_fault :
    nextOf (step { base with fault := 0b10, led := #v[0, 0x0F, 0, 0, 0], inbox := [.reset] }) = some base := by decide

/-- RESET after 4 events of SHOUT: the world has seen those four. -/
theorem test_reset_mid_command :
    (nextOf (step { base with lsn := 1, inbox := [.cmdThenReset 0x8005 4] })).map (fun t => (t.hist, t.pin, t.lsn)) =
      some ([.w .ledData true, .w .ledClk true, .w .ledClk false, .w .ledData false], Pins.reset true, 0) := by decide

theorem test_untaken_event_stalls :
    nextOf (step { scripted { base with lsn := 0b100 } [] [512, 0, 0, 0, 0, 0] [] with inbox := [.cmdUntaken 0x5000 0] }) = none ∧
      (nextOf (step { scripted { base with lsn := 0b100 } [] [512, 0, 0, 0, 0, 0] [] with inbox := [.cmdUntaken 0x5000 1] })).isSome := by
  decide +kernel

/-- The first instruction after reset, whatever the open parameter is. -/
theorem test_first_command_after_reset : (nextOf (step (State.reset.withFetchWord 16 0x9121))).map (·.led[1]) = some 0x20 := by decide

/-! ## Witnesses: states and operands that meet the hypotheses of each statement -/

theorem witness_EncodeOfDecode : decode 0x7000 = .ok .shin := by decide

theorem witness_IllegalWordFaults :
    [0x0000, 0xE000, 0xFFFF, 0x1001].map (fun w : CmdWord => (w.toNat / 4096, opcodeMap.all fun row => w &&& row.mask != row.pattern,
      (issued base w).fault)) = [(0, true, 0), (14, true, 0), (15, true, 0), (1, true, 0)] := by decide

theorem witness_WordClassesPartition : [0x1000, 0xA5FF, 0x1001].map classify = [.legal, .rangeFault, .illegal] := by decide

theorem witness_EventWordInjective : eventWord (.down 2 3) = 0x5300000000 := by decide

theorem witness_StepRunsDecodedCommand :
    (issued base 0xA5FF).inbox = [.cmd 0xA5FF] ∧ (issued base 0xA5FF).fault = 0 ∧ decode 0xA5FF = .ok (.setrow 5 0xFF) := by decide

theorem witness_FaultedRefusesCommands :
    ({ base with fault := 2, inbox := [.cmdUntaken 0x2000 0] } : State).fault ≠ 0 ∧
      ∃ t, step { base with fault := 2, inbox := [.cmd 0x2000] } = .next t := ⟨by decide, _, rfl⟩

theorem witness_RangeFaultsComplete :
    4 < (5#3).toNat ∧ Instr.init.wellFormed = true ∧ ∃ t, exec .init base = .next t := ⟨by decide, rfl, _, rfl⟩

theorem witness_LegalCommandsComplete : (Instr.setled 4 7 true).wellFormed = true := by decide

theorem witness_IdleChangesNothing : base.inbox = [] := rfl

theorem witness_ResetRestoresState : ({ base with inbox := [.reset] } : State).inbox = .reset :: [] := rfl

theorem witness_ResetAbandonsCommand :
    ({ base with inbox := [.cmdThenReset 0x8005 4] } : State).inbox = .cmdThenReset 0x8005 4 :: [] ∧
      ∃ u, step { base with inbox := [.cmd 0x8005] } = .next u := ⟨rfl, _, rfl⟩

/-- The same at both ends: before the first event (`n = 0`), at the command's last one and beyond it (SHOUT has 24). -/
theorem witness_ResetAbandonsCommand_bounds :
    [0, 23, 24, 25].map (fun n => (nextOf (step { base with lsn := 1, inbox := [.cmdThenReset 0x8005 n] })).map (fun t => (t.hist.length, t.lsn))) =
      [some (0, 0), some (23, 0), some (24, 0), some (24, 0)] := by decide

/-- One event is offered: with `k = 0` the command stalls, with `k = 1` it completes. -/
theorem witness_UntakenEventStalls :
    (nextOf (step { scripted { base with lsn := 0b100 } [] [512, 0, 0, 0, 0, 0] [] with inbox := [.cmd 0x5000] })).map
      (fun u => (deliveredWords u.hist).length) = some 1 := by decide +kernel

/-- RdbtnGuardedScan has no hypothesis; its two cases at their boundary: 9 ms throttled, 10 ms accepted. -/
theorem witness_RdbtnGuardedScan :
    ((scripted base [] [] [9]).oracle.nowAt 0 - base.lastRead).toNat < 10 ∧
      ¬((scripted base [] [] [10]).oracle.nowAt 0 - base.lastRead).toNat < 10 := by decide

/-- For the statements about an accepted scan: INIT at any time, RDBTN and READ at their boundary of 10 ms. -/
theorem witness_Scans :
    (scripted base [] [] [9]).Scans .init ∧ (scripted base [] [] [10]).Scans .rdbtn ∧ (scripted base [] [] [10]).Scans .read ∧
      ¬(scripted base [] [] [9]).Scans .read := by
  refine ⟨.inl rfl, .inr ⟨.inl rfl, by decide⟩, .inr ⟨.inr rfl, by decide⟩, ?_⟩
  rintro (h | ⟨-, h⟩)
  · cases h
  · revert h; decide

/-- Button (2,3) pressed at 120, released at 500, both button listeners set (program P1). -/
def pressed : State := scripted { base with lsn := 0b011, lastRead := 100 } [0, 0, 8, 0, 0, 0, 0, 0, 0, 0] [] [120, 500]

theorem witness_PressThenReleaseReported :
    pressed.lsn.getLsbD 0 = true ∧ pressed.lsn.getLsbD 1 = true ∧ pressed.btnCur[2].getLsbD 3 = false ∧
      10 ≤ (pressed.oracle.nowAt 0 - pressed.lastRead).toNat ∧ 10 ≤ (pressed.oracle.nowAt 1 - pressed.oracle.nowAt 0).toNat ∧
      pressed.oracle.btnDataAt (8 * (4 - 2) + 3) = true ∧ pressed.oracle.btnDataAt (40 + (8 * (4 - 2) + 3)) = false := by decide

/-- Both commands that write the LEDs answer, and send the low bit of row 0 first. -/
theorem witness_LedFrameOrder :
    [Instr.wrled, .write].map (fun i => (nextOf (exec i { base with led := #v[1, 0, 0, 0, 0] })).map
      (fun t => ((drivenLevels .ledData t.hist).length, (drivenLevels .ledData t.hist).head?))) =
      List.replicate 2 (some (40, some true)) := by decide +kernel

theorem witness_WritesBlink : base.frame.toNat % 2 = 0 ∧ ({ base with frame := 255 } : State).frame.toNat % 2 = 1 := by decide

theorem witness_PotArithmetic :
    (24#16).toNat < 25 ∧ 1000 < (1001#16).toNat ∧ 25 ≤ (25#16).toNat ∧ (25#16).toNat ≤ 1000 ∧ (1000#16).toNat ≤ 1000 := by decide

theorem witness_RescaleFacts : 25 ≤ 25 ∧ 25 < 1000 ∧ 1000 ≤ 1000 ∧ (rescale 25).toNat < (rescale 1000).toNat := by decide

theorem witness_SecondPassSilent :
    ∀ ch : Chan, (scripted base [] [10, 25, 512, 1000, 1500, 33, 10, 25, 512, 1000, 1500, 33] []).oracle.ainAt (6 + ch.val) =
      (scripted base [] [10, 25, 512, 1000, 1500, 33, 10, 25, 512, 1000, 1500, 33] []).oracle.ainAt ch.val := by decide

/-- For the statements about every command that answers a next state: each command does. -/
theorem witness_every_command_answers (i : Instr) : ∃ t, exec i base = .next t := by
  cases i <;> exact ⟨_, rfl⟩

/-- WritersOfEachRegister: each register does change under a command that may write it. -/
theorem witness_WritersOfEachRegister :
    (nextOf (exec (.setled 0 0 true) base)).map (fun t => t.led != base.led) = some true ∧
      (nextOf (exec .write base)).map (fun t => t.frame != base.frame) = some true ∧
      (nextOf (exec (.listen 0 true) base)).map (fun t => t.lsn != base.lsn) = some true ∧
      (nextOf (exec (.getcfg 0) base)).map (fun t => t.result != base.result) = some true ∧
      (nextOf (exec (.getcfg 3) base)).map (fun t => t.fault != base.fault) = some true ∧
      (nextOf (exec .rdbtn multi)).map (fun t => t.btnCur != multi.btnCur && t.lastRead != multi.lastRead) = some true := by
  decide +kernel

theorem witness_step_answers : ∃ t, step (issued base 0x3000) = .next t := ⟨_, rfl⟩

theorem witness_StepKeepsLinesRested : base.Rested :=
  ⟨rfl, rfl, rfl, by decide, .inl rfl⟩

theorem witness_StepKeepsEventsProduced : base.EventsProduced := by
  intro word h; cases h

/-- A pressed cell whose timestamp is a time the clock gave. -/
theorem witness_StepKeepsPressesRecorded : ({ base with btnCur := #v[1, 0, 0, 0, 0], hist := [.t 0] } : State).PressesRecorded := by
  have h : ∀ (r : Row) (c : Col), HistoryEvent.t ((Vector.replicate 5 (Vector.replicate 8 (0 : Millis)))[r.val][c.val]) ∈
      [HistoryEvent.t 0] := by decide
  exact fun r c _ => h r c

theorem witness_LegalRunsSucceed : base.fault = 0 ∧ ∀ w ∈ [0x9121, 0xA4A5], classify w = .legal := by
  refine ⟨rfl, ?_⟩
  simp only [List.forall_mem_cons]
  exact ⟨by decide, by decide, fun _ h => nomatch h⟩

/-- FirstBadWordStopsRun: SETROW 1, then a row of 5 (program P5), then an illegal word. -/
theorem witness_FirstBadWordStopsRun :
    (nextOf (runProgram base [0xA10F])).map (·.fault) = some 0 ∧ classify 0xA5FF = .rangeFault ∧ classify 0x0000 = .illegal ∧
      (nextOf (runProgram base [0xA10F, 0xA5FF, 0x9001])).map (fun t => (t.fault, t.led)) = some (2, #v[0, 0x0F, 0, 0, 0]) := by
  decide

/-- A reference environment with buttons (4,0), (2,3) and (0,0) held and six pots, the cascades in some state. -/
def world : Env :=
  { Env.start true
      #v[#v[true, false, false, false, false, false, false, false], Vector.replicate 8 false,
        #v[false, false, false, true, false, false, false, false], Vector.replicate 8 false,
        #v[true, false, false, false, false, false, false, false]]
      #v[10, 25, 512, 1000, 1500, 33] 7 with
    bq := Vector.replicate 40 true, bhead := 40, lsr := Vector.replicate 40 true, lout := Vector.replicate 5 (Vector.replicate 8 true) }

/-- A scan of that world: button (2,3) was pressed just before the latch, and (0,0) is released while the frame is shifted out. -/
def scanned : State := scripted base [1, 0, 8, 0, 1] [10, 25, 512, 1000, 1500, 33] [10]

/-- What happens before the latch is asserted: 3 ms pass, the clock is read, button (2,3) is let go and pressed. -/
def beforeLatch : List WorldEvent := [.elapse 3, .seen (.t 10), .button 2 3 false, .button 2 3 true]

theorem witness_ScanReadsHeldButtons :
    [Instr.init, .rdbtn, .read].map (fun i => (nextOf (exec i scanned)).map fun t =>
      let after := seenEvents (t.hist.drop 2)
      (decide (world.shiftLevel = scanned.shiftLevel),
        decide (gsioPart (beforeLatch ++ .seen (.w .btnLatch true) :: .button 0 0 false :: after) = seenEvents t.hist),
        ((world.follow beforeLatch).bind fun m =>
          m.follow (.seen (.w .btnLatch true) :: .button 0 0 false :: after)).map fun v => v.physBtn[0][0])) =
      List.replicate 3 (some (true, true, some false)) := by
  decide +kernel

/-- LED (1,2) is lit by WRITE on an even frame (program P2), whatever the LEDs showed before. -/
theorem test_reference_led :
    ((nextOf (exec .write { base with led := #v[0, 0x20, 0, 0, 0] })).bind (fun t => world.follow (seenEvents t.hist))).map
      (·.lout[1]) = some #v[false, false, true, false, false, false, false, false] := by decide +kernel

theorem witness_LedWriteShowsMatrix : world.pin.ledClk = false ∧ gsioPart (seenEvents [.w .ledLatch false]) = seenEvents [.w .ledLatch false] := by
  decide

/-- A pass during which time goes by and a button moves, but no potentiometer turns. -/
theorem witness_PotPassReadsPots :
    (nextOf (exec .rdpot scanned)).map (fun t =>
      let timeline := .elapse 5 :: .button 1 1 true :: seenEvents t.hist
      (decide (gsioPart timeline = seenEvents t.hist), (world.follow timeline).isSome,
        timeline.all fun e => match e with
          | .turn _ _ => false
          | .seen _ => true
          | .reset => true
          | .button _ _ _ => true
          | .elapse _ => true)) = some (true, true, true) := by
  decide +kernel

/-- A sample the environment does not give is refused. -/
theorem test_reference_refuses_wrong_sample :
    (nextOf (exec .rdpot (scripted base [] [10, 25, 513, 1000, 1500, 33] []))).map
      (fun t => (world.follow (seenEvents t.hist)).isSome) = some false := by decide +kernel

/-- What two steps show to the environment `world`. -/
def afterTwoSteps (s : State) : Option Env :=
  (nextOf (step s)).bind fun t => (nextOf (step t)).bind fun u => world.follow (stepEvents s t ++ stepEvents t u)

/-- RESET cuts a WRITE while LED_CLK is high; the next WRITE of row bytes 0 (RESET cleared them) darkens all 40 LEDs: no bit is lost. -/
theorem test_reference_reset_cuts_write :
    (afterTwoSteps { base with led := Vector.replicate 5 0xFF, inbox := [.cmdThenReset 0x3000 3, .cmd 0x3000] }).map
      (fun v => (v.lout, v.lsr)) = some (Vector.replicate 5 (Vector.replicate 8 false), Vector.replicate 40 false) := by decide +kernel

/-- RESET cuts an INIT with the latch asserted; the next SHIN is answered with button (4,0), for the latch is deasserted (rule R71). -/
theorem test_reference_reset_cuts_scan :
    (afterTwoSteps (scripted { base with inbox := [.cmdThenReset 0x1000 2, .cmd 0x7000] } (List.replicate 5 0xFF) [] [7])).isSome = true ∧
      (afterTwoSteps (scripted { base with inbox := [.cmdThenReset 0x1000 2, .cmd 0x7000] } (List.replicate 5 0x01) [] [7])).isSome = false := by
  decide +kernel

theorem witness_EnvironmentSeesPins :
    let s := scripted { base with inbox := [.cmdThenReset 0x1000 2] } (List.replicate 5 0) [] [7]
    world.shiftLevel = s.shiftLevel ∧ world.pin = s.pin ∧
      (nextOf (step s)).map (fun t => (decide (gsioPart (stepEvents s t) = stepEvents s t), (world.follow (stepEvents s t)).isSome)) =
        some (true, true) := by
  decide +kernel

theorem witness_ResetLeavesCascades :
    let s : State := { base with inbox := [.reset] }
    (nextOf (step s)).map (stepEvents s) = some [.reset] ∧ gsioPart [.elapse 1, .reset] = [.reset] := by decide

/-- The clock passes 2^32 ms and is read as 3 (program P4, command 7). -/
theorem witness_ClockNeverDecreases :
    (world.follow ([.elapse 4294967292] ++ .seen (.t 3) :: [.elapse 1])).map (·.clockMs) = some 4294967300 := by decide +kernel

end Sys2Proof.Tests
end

section
/-! PROOFS for spec/00_scope.md. Every command is a sequence of the pseudocode primitives of rules R8 to R16, and each primitive does to
the history, the oracle and the pins what the statements say of a whole step. -/

namespace Sys2Proof.Machine

/-! ## A command is a sequence of primitives -/

/-- One primitive of the pseudocode (rules R8 to R16). A register write appends nothing and touches no pin and no answer. -/
inductive Primitive : State → State → Prop where
  | pinWrite (s : State) (p : Pin) (b : Bool) : Primitive s (s.pinWrite p b)
  | pinRead (s : State) : Primitive s s.pinRead
  | delayUs (s : State) (n : Nat) : Primitive s (s.delayUs n)
  | analogSample (s : State) : Primitive s s.analogSample
  | nowMs (s : State) : Primitive s s.nowMs
  | emit (s : State) (ev : Event) : Primitive s (s.emit ev)
  | returnResult (s : State) (v : Byte) : Primitive s (s.returnResult v)
  | registers {s t : State} (hist : t.hist = s.hist) (oracle : t.oracle = s.oracle) (pin : t.pin = s.pin)
      (shiftLevel : t.shiftLevel = s.shiftLevel) (inbox : t.inbox = s.inbox) : Primitive s t

namespace Primitive

variable (s : State)

theorem setBtnCur (r : Row) (v : Byte) : Primitive s (s.setBtnCur r v) := .registers rfl rfl rfl rfl rfl

theorem setBtnPrev (r : Row) (v : Byte) : Primitive s (s.setBtnPrev r v) := .registers rfl rfl rfl rfl rfl

theorem setPressTs (r : Row) (c : Col) (now : Millis) : Primitive s (s.setPressTs r c now) := .registers rfl rfl rfl rfl rfl

theorem setLastRead (now : Millis) : Primitive s (s.setLastRead now) := .registers rfl rfl rfl rfl rfl

theorem setLedRow (r : Row) (v : Byte) : Primitive s (s.setLedRow r v) := .registers rfl rfl rfl rfl rfl

theorem advanceFrame : Primitive s s.advanceFrame := .registers rfl rfl rfl rfl rfl

theorem setPotQ (ch : Chan) (q : BitVec 7) : Primitive s (s.setPotQ ch q) := .registers rfl rfl rfl rfl rfl

theorem setListener (slot : Slot) (en : Bool) : Primitive s (s.setListener slot en) := .registers rfl rfl rfl rfl rfl

theorem raiseFault (code : FaultCode) : Primitive s (s.raiseFault code) := .registers rfl rfl rfl rfl rfl

end Primitive

/-- `t` is reached from `s` by primitives alone. -/
def Reaches : State → State → Prop := Relation.ReflTransGen Primitive

namespace Reaches

variable {s t u : State}

theorem refl (s : State) : Reaches s s := Relation.ReflTransGen.refl

theorem trans (h : Reaches s t) (h' : Reaches t u) : Reaches s u := Relation.ReflTransGen.trans h h'

theorem step (h : Reaches s t) (h' : Primitive t u) : Reaches s u := Relation.ReflTransGen.tail h h'

theorem of (h : Primitive s t) : Reaches s t := Relation.ReflTransGen.single h

theorem foldl {α : Type} {f : State → α → State} (hf : ∀ s a, Reaches s (f s a)) (l : List α) (s : State) :
    Reaches s (l.foldl f s) := by
  induction l generalizing s with
  | nil => exact refl s
  | cons a l ih => exact (hf s a).trans (ih (f s a))

end Reaches

/-! ### The procedures -/

theorem shiftInStep_reaches (acc : Byte × State) (i : Fin 8) : Reaches acc.2 (shiftInStep acc i).2 :=
  (((Reaches.of (.pinWrite acc.2 .btnClk false)).step (.delayUs _ shinSetupUs)).step (.pinRead _)).step (.pinWrite _ .btnClk true)

theorem shiftIn_reaches (s : State) : Reaches s (shiftIn s).2 := by
  have periods (l : List (Fin 8)) (acc : Byte × State) : Reaches acc.2 (l.foldl shiftInStep acc).2 := by
    induction l generalizing acc with
    | nil => exact .refl acc.2
    | cons i l ih => exact (shiftInStep_reaches acc i).trans (ih (shiftInStep acc i))
  exact periods bitOrder (0, s)

theorem shiftOut_reaches (order : BitOrder) (value : Byte) (s : State) : Reaches s (shiftOut order value s) :=
  .foldl (fun s i => ((Reaches.of (.pinWrite s .ledData (outBit order value i))).step (.pinWrite _ .ledClk true)).step
    (.pinWrite _ .ledClk false)) bitOrder s

theorem emitIf_reaches (s : State) (notify : Bool) (ev : Event) : Reaches s (s.emitIf notify ev) := by
  cases notify with
  | false => exact .refl s
  | true => exact .of (.emit s ev)

theorem scanCell_reaches (now : Millis) (notify : Bool) (r : Row) (s : State) (c : Col) : Reaches s (scanCell now notify r s c) := by
  have pressed : Reaches s (if !cellBit s.btnPrev r c && cellBit s.btnCur r c then
      (s.emitIf notify (.down r c)).setPressTs r c now else s) := by
    split
    · exact (emitIf_reaches s notify _).step (.setPressTs _ r c now)
    · exact .refl s
  unfold scanCell
  dsimp only
  split
  · exact pressed.trans (emitIf_reaches _ notify _)
  · exact pressed

theorem scanRow_reaches (now : Millis) (notify : Bool) (s : State) (r : Row) : Reaches s (scanRow now notify s r) := by
  have sampled : Reaches s ((shiftIn (s.setBtnPrev r s.btnCur[r.val])).2.setBtnCur r (shiftIn (s.setBtnPrev r s.btnCur[r.val])).1) :=
    ((Reaches.of (.setBtnPrev s r _)).trans (shiftIn_reaches _)).step (.setBtnCur _ r _)
  unfold scanRow
  dsimp only
  split
  · exact sampled.trans (.foldl (scanCell_reaches now notify r) colOrder _)
  · exact sampled

theorem scanButtons_reaches (now : Millis) (notify : Bool) (s : State) : Reaches s (scanButtons now notify s) :=
  (((Reaches.of (.pinWrite s .btnLatch s.shiftLevel)).trans (.foldl (scanRow_reaches now notify) buttonRowOrder _)).step
    (.pinWrite _ .btnLatch !s.shiftLevel)).step (.setLastRead _ now)

theorem readButtons_reaches (s : State) : Reaches s (readButtons s) := by
  unfold readButtons
  split
  · exact .of (.nowMs s)
  · exact (Reaches.of (.nowMs s)).trans (scanButtons_reaches _ _ _)

theorem selectChannel_reaches (s : State) (ch : Chan) : Reaches s (selectChannel s ch) :=
  .foldl (fun s j => .of (.pinWrite s (.sel j) (selBit ch j))) selOrder s

theorem filterPot_reaches (ch : Chan) (raw : Raw) (s : State) : Reaches s (filterPot ch raw s) := by
  unfold filterPot
  split
  · exact (Reaches.of (.emit s _)).step (.setPotQ _ ch _)
  · exact .refl s

theorem readPot_reaches (s : State) (ch : Chan) : Reaches s (readPot s ch) :=
  ((selectChannel_reaches s ch).step (.analogSample _)).trans (filterPot_reaches ch _ _)

theorem readPots_reaches (s : State) : Reaches s (readPots s) := .foldl readPot_reaches chanOrder s

theorem writeLeds_reaches (s : State) : Reaches s (writeLeds s) :=
  ((Reaches.of (.pinWrite s .ledLatch false)).trans
    (.foldl (fun s r => shiftOut_reaches .lsbFirst (ledByte s r) s) ledRowOrder _)).step (.pinWrite _ .ledLatch true)

theorem rangeChecked_reaches {α : Type} (s : State) (operand : Option α) {legal : α → State} (h : ∀ a, Primitive s (legal a)) :
    Reaches s (s.rangeChecked operand legal) := by
  cases operand with
  | none => exact .of (.raiseFault s .range)
  | some a => exact .of (h a)

/-! ### The commands -/

/-- Every command answers, and what it answers is reached by primitives. -/
theorem exec_next_reaches (i : Instr) (s : State) : ∃ t, exec i s = .next t ∧ Reaches s t := by
  cases i with
  | init => exact ⟨_, rfl, (Reaches.of (.nowMs s)).trans (scanButtons_reaches _ _ _)⟩
  | read => exact ⟨_, rfl, (readButtons_reaches s).trans (readPots_reaches _)⟩
  | write => exact ⟨_, rfl, (writeLeds_reaches s).step (.advanceFrame _)⟩
  | rdbtn => exact ⟨_, rfl, readButtons_reaches s⟩
  | rdpot => exact ⟨_, rfl, readPots_reaches s⟩
  | wrled => exact ⟨_, rfl, writeLeds_reaches s⟩
  | shin => exact ⟨_, rfl, (shiftIn_reaches s).step (.returnResult _ _)⟩
  | shout order value => exact ⟨_, rfl, shiftOut_reaches order value s⟩
  | setled row col val => exact ⟨_, rfl, rangeChecked_reaches s _ fun r => .setLedRow s r _⟩
  | setrow row value => exact ⟨_, rfl, rangeChecked_reaches s _ fun r => .setLedRow s r value⟩
  | getbtn row col => exact ⟨_, rfl, rangeChecked_reaches s _ fun _ => .returnResult s _⟩
  | listen slot en => exact ⟨_, rfl, rangeChecked_reaches s _ fun j => .setListener s j en⟩
  | getcfg k => exact ⟨_, rfl, rangeChecked_reaches s _ fun v => .returnResult s v⟩

theorem exec_reaches {i : Instr} {s t : State} (h : exec i s = .next t) : Reaches s t := by
  obtain ⟨t', answered, reached⟩ := exec_next_reaches i s
  cases h.symm.trans answered
  exact reached

/-! ## Reading a history: one equation for each shape of the list -/

theorem Pins.afterEvents_append (p : Pins) (as bs : List HistoryEvent) : p.afterEvents (as ++ bs) = (p.afterEvents as).afterEvents bs :=
  List.foldl_append

theorem Pins.afterEvents_cons (p : Pins) (h : HistoryEvent) (hs : List HistoryEvent) :
    p.afterEvents (h :: hs) = (p.afterEvents [h]).afterEvents hs := rfl

theorem Oracle.explains_nil {o after : Oracle} : o.Explains [] after ↔ after = o := Iff.rfl

theorem Oracle.explains_cons {o after : Oracle} {h : HistoryEvent} {hs : List HistoryEvent} :
    o.Explains (h :: hs) after ↔ o.Confirms h ∧ (o.after h).Explains hs after := Iff.rfl

theorem Oracle.explains_append {o after : Oracle} {as bs : List HistoryEvent} :
    o.Explains (as ++ bs) after ↔ ∃ m, o.Explains as m ∧ m.Explains bs after := by
  induction as generalizing o with
  | nil => simp [explains_nil]
  | cons h as ih => simp [explains_cons, ih, and_assoc]

/-- What is left of the oracle is determined by the history. -/
theorem Oracle.Explains.after_eq {o after : Oracle} {hs : List HistoryEvent} (h : o.Explains hs after) :
    after = hs.foldl Oracle.after o := by
  induction hs generalizing o with
  | nil => exact h
  | cons e hs ih => exact ih h.2

/-- A history cut short is explained by the answers it still records. -/
theorem Oracle.Explains.take {o after : Oracle} {hs : List HistoryEvent} (h : o.Explains hs after) (n : Nat) :
    o.Explains (hs.take n) ((hs.take n).foldl Oracle.after o) := by
  rw [← List.take_append_drop n hs, explains_append] at h
  obtain ⟨m, taken, -⟩ := h
  exact taken.after_eq ▸ taken

/-! ## What a command and a step record -/

/-- From `s` to `t` the history grows by `hs`, whose answers are the oracle's, and the strap stays. The pins stand apart, because a
RESET sets them without an event. -/
structure Records (s : State) (hs : List HistoryEvent) (t : State) : Prop where
  hist : t.hist = s.hist ++ hs
  oracle : s.oracle.Explains hs t.oracle
  shiftLevel : t.shiftLevel = s.shiftLevel

theorem Records.of_eq {s t : State} (hist : t.hist = s.hist) (oracle : t.oracle = s.oracle) (shiftLevel : t.shiftLevel = s.shiftLevel) :
    Records s [] t :=
  ⟨by simp [hist], oracle, shiftLevel⟩

theorem Records.trans {s m t : State} {as bs : List HistoryEvent} (h : Records s as m) (h' : Records m bs t) :
    Records s (as ++ bs) t :=
  ⟨by rw [h'.hist, h.hist, List.append_assoc], Oracle.explains_append.2 ⟨m.oracle, h.oracle, h'.oracle⟩,
    h'.shiftLevel.trans h.shiftLevel⟩

theorem Records.newEvents_eq {s t : State} {hs : List HistoryEvent} (h : Records s hs t) : newEvents s t = hs := by
  simp [newEvents, h.hist]

/-- RESET in the middle of a command keeps the part of its history that has been seen, and the answers given in it. -/
theorem Records.resetMidCommand {s t : State} {hs : List HistoryEvent} (h : Records s hs t) (n : Nat) :
    Records s (hs.take n) (s.resetMidCommand t n) := by
  refine ⟨?hist, ?oracle, rfl⟩
  case hist => simp [State.resetMidCommand, h.newEvents_eq]
  case oracle => simpa [State.resetMidCommand, h.newEvents_eq] using h.oracle.take n

/-- An emission records at most one event word, which asks nothing of the oracle and drives no pin. -/
theorem emit_records (s : State) (ev : Event) :
    Records s (emitted s.lsn ev) (s.emit ev) ∧ s.pin.afterEvents (emitted s.lsn ev) = s.pin := by
  unfold State.emit emitted
  split
  · exact ⟨⟨rfl, ⟨trivial, rfl⟩, rfl⟩, rfl⟩
  · exact ⟨⟨rfl, rfl, rfl⟩, rfl⟩

theorem Primitive.records {s t : State} (h : Primitive s t) : ∃ hs, Records s hs t ∧ t.pin = s.pin.afterEvents hs := by
  cases h with
  | pinWrite p b => exact ⟨[.w p b], ⟨rfl, ⟨trivial, rfl⟩, rfl⟩, rfl⟩
  | pinRead => exact ⟨[.r .btnData s.nextBtnData], ⟨rfl, ⟨rfl, rfl⟩, rfl⟩, rfl⟩
  | delayUs n => exact ⟨[.d n], ⟨rfl, ⟨trivial, rfl⟩, rfl⟩, rfl⟩
  | analogSample => exact ⟨[.a s.nextAin], ⟨rfl, ⟨rfl, rfl⟩, rfl⟩, rfl⟩
  | nowMs => exact ⟨[.t s.nextNow], ⟨rfl, ⟨rfl, rfl⟩, rfl⟩, rfl⟩
  | emit ev => exact ⟨emitted s.lsn ev, (emit_records s ev).1, (emit_records s ev).2.symm⟩
  | returnResult v => exact ⟨[.res v], ⟨rfl, ⟨trivial, rfl⟩, rfl⟩, rfl⟩
  | registers hist oracle pin shiftLevel _ => exact ⟨[], .of_eq hist oracle shiftLevel, pin⟩

theorem Reaches.records {s t : State} (h : Reaches s t) : ∃ hs, Records s hs t ∧ t.pin = s.pin.afterEvents hs := by
  induction h with
  | refl => exact ⟨[], .of_eq rfl rfl rfl, rfl⟩
  | tail _ last ih =>
    obtain ⟨as, recorded, pins⟩ := ih
    obtain ⟨bs, recorded', pins'⟩ := last.records
    exact ⟨as ++ bs, recorded.trans recorded', by rw [pins', pins, Pins.afterEvents_append]⟩

/-- What a command records: its answers are the oracle's, and its pins are the levels it has written. -/
theorem exec_records {i : Instr} {s t : State} (h : exec i s = .next t) :
    Records s (newEvents s t) t ∧ t.pin = s.pin.afterEvents (newEvents s t) := by
  obtain ⟨hs, recorded, pins⟩ := (exec_reaches h).records
  rw [recorded.newEvents_eq]
  exact ⟨recorded, pins⟩

/-- What an issued word records, discarded and illegal words included. -/
theorem issueWith_records {w : CmdWord} {s t : State} (h : issueWith exec w s = .next t) :
    ∃ hs, Records s hs t ∧ t.pin = s.pin.afterEvents hs := by
  obtain ⟨-, e⟩ | ⟨-, -, e⟩ | ⟨-, i, -, e⟩ := issueWith_cases exec w s <;> rw [e] at h
  · cases h; exact ⟨[], .of_eq rfl rfl rfl, rfl⟩
  · cases h; exact ⟨[], .of_eq rfl rfl rfl, rfl⟩
  · exact ⟨_, exec_records h⟩

/-- A command cut short by RESET would have completed, and leaves the state `resetMidCommand` says. -/
theorem issueThenReset_next {run : Instr → State → Host.Outcome State Fault Refusal} {w : CmdWord} {n : Nat} {s t : State}
    (h : issueThenReset run w n s = .next t) : ∃ done, issueWith run w s = .next done ∧ t = s.resetMidCommand done n := by
  unfold issueThenReset at h
  split at h
  · cases h; exact ⟨_, ‹_›, rfl⟩
  · cases h
  · cases h

/-- A command whose consumer takes enough of its events ends as if it took them all. -/
theorem issueUntaken_next {run : Instr → State → Host.Outcome State Fault Refusal} {w : CmdWord} {k : Nat} {s t : State}
    (h : issueUntaken run w k s = .next t) : issueWith run w s = .next t := by
  unfold issueUntaken at h
  split at h
  · split at h
    · cases h
    · cases h; assumption
  · cases h
  · cases h

/-- The pins after an input that has appended `hs`: at their reset levels if it asserts RESET, else at the levels last written. -/
def pinsAfterInput (s : State) (resets : Bool) (hs : List HistoryEvent) : Pins :=
  if resets then Pins.reset s.shiftLevel else s.pin.afterEvents hs

theorem takeInput_records {input : HostInput} {s t : State} (h : takeInput exec input s = .next t) :
    ∃ hs, Records s hs t ∧ t.pin = pinsAfterInput s input.assertsReset hs := by
  cases input with
  | cmd w => exact issueWith_records h
  | cmdThenReset w n =>
    obtain ⟨done, issued, rfl⟩ := issueThenReset_next h
    obtain ⟨hs, recorded, -⟩ := issueWith_records issued
    exact ⟨hs.take n, recorded.resetMidCommand n, rfl⟩
  | cmdUntaken w k => exact issueWith_records (issueUntaken_next h)
  | reset => cases h; exact ⟨[], .of_eq rfl rfl rfl, rfl⟩

/-- What a step records, whatever its input. -/
theorem step_records {s t : State} (h : step s = .next t) :
    Records s (newEvents s t) t ∧ t.pin = pinsAfterInput s (s.inbox.head?.any HostInput.assertsReset) (newEvents s t) := by
  suffices ∃ hs, Records s hs t ∧ t.pin = pinsAfterInput s (s.inbox.head?.any HostInput.assertsReset) hs by
    obtain ⟨hs, recorded, pins⟩ := this
    rw [recorded.newEvents_eq]
    exact ⟨recorded, pins⟩
  cases hi : s.inbox with
  | nil =>
    rw [step_idle hi] at h
    cases h
    exact ⟨[], .of_eq rfl rfl rfl, rfl⟩
  | cons input rest =>
    rw [step_cons hi] at h
    obtain ⟨hs, ⟨hist, oracle, shiftLevel⟩, pins⟩ := takeInput_records h
    exact ⟨hs, ⟨hist, oracle, shiftLevel⟩, pins⟩

/-- Settles O42: a step appends the events it records. -/
theorem historyOnlyGrows : Obligations.HistoryOnlyGrows := fun _ _ h => ⟨_, (step_records h).1.hist.symm⟩

/-- Settles O43: the answers among those events are the oracle's. -/
theorem answersAreTheOracles : Obligations.AnswersAreTheOracles := fun _ _ h => (step_records h).1.oracle

/-- Settles O44, by the primitives: only a pin write moves a latch, and it is recorded. -/
theorem pinsFollowHistory : Obligations.PinsFollowHistory := fun _ _ _ h => (exec_records h).2

/-! ## What the environment sees on its pins -/

/-- The levels on the environment's pins after one thing that happens. -/
def Pins.afterWorldEvent (shiftLevel : Bool) (p : Pins) : WorldEvent → Pins
  | .seen h => p.afterEvents [h]
  | .reset => Pins.reset shiftLevel
  | .button _ _ _ => p
  | .turn _ _ => p
  | .elapse _ => p

theorem Env.observe_pins {v v' : Env} {h : HistoryEvent} (ho : v.observe h = some v') :
    v'.shiftLevel = v.shiftLevel ∧ v'.pin = v.pin.afterEvents [h] := by
  obtain ⟨p, b, rfl, rfl⟩ | ⟨rfl, answer⟩ := Env.observe_cases ho
  · exact ⟨v.pinWritten_shiftLevel p b, v.pinWritten_pin p b⟩
  · obtain ⟨_, rfl, -⟩ | ⟨_, rfl, -⟩ | ⟨_, rfl, -⟩ | ⟨_, rfl⟩ | ⟨_, rfl⟩ | ⟨_, rfl⟩ := answer <;> exact ⟨rfl, rfl⟩

theorem Env.react_pins {v v' : Env} {e : WorldEvent} (hr : v.react e = some v') :
    v'.shiftLevel = v.shiftLevel ∧ v'.pin = v.pin.afterWorldEvent v.shiftLevel e := by
  cases e with
  | seen h => exact Env.observe_pins hr
  | reset => cases hr; exact ⟨rfl, rfl⟩
  | button r c held => cases hr; exact ⟨rfl, rfl⟩
  | turn ch raw => cases hr; exact ⟨rfl, rfl⟩
  | elapse ms => cases hr; exact ⟨rfl, rfl⟩

/-- Only GSIO's part of a timeline moves the pins. -/
theorem Pins.foldl_gsioPart (shiftLevel : Bool) (p : Pins) (timeline : List WorldEvent) :
    (gsioPart timeline).foldl (Pins.afterWorldEvent shiftLevel) p = timeline.foldl (Pins.afterWorldEvent shiftLevel) p := by
  induction timeline generalizing p with
  | nil => rfl
  | cons e rest ih =>
    rw [List.foldl_cons, ← ih]
    cases e <;> rfl

theorem Env.follow_pins {v v' : Env} {timeline : List WorldEvent} (h : v.follow timeline = some v') :
    v'.shiftLevel = v.shiftLevel ∧ v'.pin = (gsioPart timeline).foldl (Pins.afterWorldEvent v.shiftLevel) v.pin := by
  rw [Pins.foldl_gsioPart]
  induction timeline generalizing v with
  | nil => cases h; exact ⟨rfl, rfl⟩
  | cons e rest ih =>
    rw [Env.follow_cons] at h
    obtain ⟨m, reacted, followed⟩ := Option.bind_eq_some_iff.1 h
    obtain ⟨level, pins⟩ := Env.react_pins reacted
    rw [List.foldl_cons, ← pins, ← level]
    exact ih followed

theorem Pins.foldl_seenEvents (shiftLevel : Bool) (p : Pins) (hs : List HistoryEvent) :
    (seenEvents hs).foldl (Pins.afterWorldEvent shiftLevel) p = p.afterEvents hs := by
  induction hs generalizing p with
  | nil => rfl
  | cons h hs ih => rw [seenEvents_cons, List.foldl_cons, ih, Pins.afterEvents_cons]; rfl

/-- What a step shows to the environment puts on its pins what the step does to GSIO's. -/
theorem Pins.foldl_stepEvents (s t : State) :
    (stepEvents s t).foldl (Pins.afterWorldEvent s.shiftLevel) s.pin =
      pinsAfterInput s (s.inbox.head?.any HostInput.assertsReset) (newEvents s t) := by
  unfold stepEvents pinsAfterInput
  rw [List.foldl_append, Pins.foldl_seenEvents]
  split <;> rfl

/-- Settles O57: the environment's pins follow what the step shows it, and GSIO's pins do the same. -/
theorem environmentSeesPins : Obligations.EnvironmentSeesPins := by
  intro v v' s t timeline hlevel hpin hstep hgsio hfollow
  obtain ⟨recorded, pins⟩ := step_records hstep
  obtain ⟨level', pins'⟩ := Env.follow_pins hfollow
  rw [hgsio, hlevel, hpin, Pins.foldl_stepEvents, ← pins] at pins'
  exact ⟨by rw [level', hlevel, recorded.shiftLevel], pins'⟩

/-! ## The other latch level -/

/-- The event is no write of the button latch. -/
def offLatch (h : HistoryEvent) : Bool := h ≠ .w .btnLatch true ∧ h ≠ .w .btnLatch false

theorem offLatch_btnLatch (b : Bool) : offLatch (.w .btnLatch b) = false := by
  cases b <;> rfl

/-- The same state on a platform of the other latch level: another strap, another level on the latch pin, another history. -/
def State.withLatch (s : State) (level latch : Bool) (hist : List HistoryEvent) : State :=
  { s with shiftLevel := level, pin := { s.pin with btnLatch := latch }, hist := hist }

/-- `u` differs from `s` only in the strap, in the latch of the button latch pin and in the history, there only in writes of that pin. -/
def LatchTwins (s u : State) : Prop :=
  ∃ level latch hist, u = s.withLatch level latch hist ∧ hist.filter offLatch = s.hist.filter offLatch

namespace LatchTwins

theorem withLevel (s : State) (level : Bool) : LatchTwins s { s with shiftLevel := level } :=
  ⟨level, s.pin.btnLatch, s.hist, rfl, rfl⟩

variable {s u : State}

theorem nextNow (h : LatchTwins s u) : u.nextNow = s.nextNow := by
  obtain ⟨_, _, _, rfl, -⟩ := h; rfl

theorem lastRead (h : LatchTwins s u) : u.lastRead = s.lastRead := by
  obtain ⟨_, _, _, rfl, -⟩ := h; rfl

theorem btnCur (h : LatchTwins s u) : u.btnCur = s.btnCur := by
  obtain ⟨_, _, _, rfl, -⟩ := h; rfl

theorem shiftIn_fst (h : LatchTwins s u) : (shiftIn u).1 = (shiftIn s).1 := by
  obtain ⟨_, _, _, rfl, -⟩ := h
  rw [Machine.shiftIn_fst, Machine.shiftIn_fst]; rfl

/-- An operation that does the same, and appends the same events, whatever the strap, the latch pin and the history. -/
theorem appends {f : State → State} (h : LatchTwins s u) (events : List HistoryEvent)
    (hf : ∀ level latch hist, f (s.withLatch level latch hist) = (f s).withLatch level latch (hist ++ events)) :
    LatchTwins (f s) (f u) := by
  obtain ⟨level, latch, hist, rfl, same⟩ := h
  have appended : (f s).hist = s.hist ++ events := congrArg State.hist (hf s.shiftLevel s.pin.btnLatch s.hist)
  exact ⟨level, latch, hist ++ events, hf level latch hist, by simp [appended, same]⟩

/-- An operation on registers, which appends nothing. -/
theorem registers {f : State → State} (h : LatchTwins s u)
    (hf : ∀ level latch hist, f (s.withLatch level latch hist) = (f s).withLatch level latch hist) : LatchTwins (f s) (f u) :=
  h.appends [] (by simpa using hf)

/-! ### The primitives -/

/-- The two runs may write their button latches to different levels. -/
theorem btnLatch (h : LatchTwins s u) (b b' : Bool) : LatchTwins (s.pinWrite .btnLatch b) (u.pinWrite .btnLatch b') := by
  obtain ⟨level, latch, hist, rfl, same⟩ := h
  exact ⟨level, b', hist ++ [.w .btnLatch b'], rfl, by simp [offLatch_btnLatch, same]⟩

theorem ledLatch (h : LatchTwins s u) (b : Bool) : LatchTwins (s.pinWrite .ledLatch b) (u.pinWrite .ledLatch b) :=
  h.appends (f := fun s => s.pinWrite .ledLatch b) [.w .ledLatch b] fun _ _ _ => rfl

theorem nowMs (h : LatchTwins s u) : LatchTwins s.nowMs u.nowMs := h.appends [.t s.nextNow] fun _ _ _ => rfl

theorem returnResult (h : LatchTwins s u) (v : Byte) : LatchTwins (s.returnResult v) (u.returnResult v) :=
  h.appends (f := fun s => s.returnResult v) [.res v] fun _ _ _ => rfl

theorem setLastRead (h : LatchTwins s u) (now : Millis) : LatchTwins (s.setLastRead now) (u.setLastRead now) :=
  h.registers (f := fun s => s.setLastRead now) fun _ _ _ => rfl

theorem advanceFrame (h : LatchTwins s u) : LatchTwins s.advanceFrame u.advanceFrame := h.registers fun _ _ _ => rfl

theorem raiseFault (h : LatchTwins s u) (code : FaultCode) : LatchTwins (s.raiseFault code) (u.raiseFault code) :=
  h.registers (f := fun s => s.raiseFault code) fun _ _ _ => rfl

theorem setLedRow (h : LatchTwins s u) (r : Row) (v : Byte) : LatchTwins (s.setLedRow r v) (u.setLedRow r v) :=
  h.registers (f := fun s => s.setLedRow r v) fun _ _ _ => rfl

theorem setLedBit (h : LatchTwins s u) (r : Row) (c : Col) (b : Bool) : LatchTwins (s.setLedBit r c b) (u.setLedBit r c b) :=
  h.registers (f := fun s => s.setLedBit r c b) fun _ _ _ => rfl

theorem setListener (h : LatchTwins s u) (j : Slot) (en : Bool) : LatchTwins (s.setListener j en) (u.setListener j en) :=
  h.registers (f := fun s => s.setListener j en) fun _ _ _ => rfl

theorem foldl {α : Type} {f : State → α → State} (hf : ∀ {s u}, LatchTwins s u → ∀ a, LatchTwins (f s a) (f u a)) (h : LatchTwins s u)
    (l : List α) : LatchTwins (l.foldl f s) (l.foldl f u) := by
  induction l generalizing s u with
  | nil => exact h
  | cons a l ih => exact ih (hf h a)

/-! ### The procedures -/

theorem shiftIn_snd (h : LatchTwins s u) : LatchTwins (shiftIn s).2 (shiftIn u).2 :=
  h.appends (f := fun s => (shiftIn s).2) (shiftInEvents (nextByte s.oracle)) fun _ _ _ => by
    simp only [shiftIn_eq]; rfl

theorem shiftOut (h : LatchTwins s u) (order : BitOrder) (value : Byte) :
    LatchTwins (shiftOut order value s) (shiftOut order value u) :=
  h.appends (shiftOutEvents order value) fun _ _ _ => by
    simp only [shiftOut_eq]; rfl

theorem scanRow (h : LatchTwins s u) (now : Millis) (notify : Bool) (r : Row) :
    LatchTwins (scanRow now notify s r) (scanRow now notify u r) :=
  h.appends (f := fun s => Machine.scanRow now notify s r)
    (shiftInEvents (nextByte s.oracle) ++ rowEvents s (nextByte s.oracle) now notify r) fun _ _ _ => by
      simp only [scanRow_update, ← List.append_assoc]; rfl

/-- A scan asserts and deasserts the latch, each run at its own level, and is otherwise the same. -/
theorem scanButtons (h : LatchTwins s u) (now : Millis) (notify : Bool) :
    LatchTwins (scanButtons now notify s) (scanButtons now notify u) :=
  ((foldl (fun h r => h.scanRow now notify r) (h.btnLatch s.shiftLevel u.shiftLevel) buttonRowOrder).btnLatch _ _).setLastRead now

/-- The debounce guard and the time of a scan come from the clock and from `last_read`. -/
theorem readButtons (h : LatchTwins s u) : LatchTwins (readButtons s) (readButtons u) := by
  unfold Machine.readButtons
  rw [h.nextNow, h.lastRead]
  split
  · exact h.nowMs
  · exact h.nowMs.scanButtons _ _

theorem readPot (h : LatchTwins s u) (ch : Chan) : LatchTwins (readPot s ch) (readPot u ch) :=
  h.appends (f := fun s => Machine.readPot s ch)
    (selectEvents ch ++ .a (s.oracle.ainAt 0) :: potEvents s ch (s.oracle.ainAt 0)) fun _ _ _ => by
      simp only [readPot_eq]; rfl

theorem readPots (h : LatchTwins s u) : LatchTwins (readPots s) (readPots u) := h.foldl readPot chanOrder

theorem writeLedRow (h : LatchTwins s u) (r : Row) : LatchTwins (writeLedRow s r) (writeLedRow u r) :=
  h.appends (f := fun s => Machine.writeLedRow s r) (shiftOutEvents .lsbFirst (shownByte s r)) fun _ _ _ => by
    simp only [writeLedRow_eq]; rfl

theorem writeLeds (h : LatchTwins s u) : LatchTwins (writeLeds s) (writeLeds u) :=
  ((h.ledLatch false).foldl writeLedRow ledRowOrder).ledLatch true

theorem rangeChecked {α : Type} (h : LatchTwins s u) (operand : Option α) {f g : α → State} (hfg : ∀ a, LatchTwins (f a) (g a)) :
    LatchTwins (s.rangeChecked operand f) (u.rangeChecked operand g) := by
  cases operand with
  | none => exact h.raiseFault .range
  | some a => exact hfg a

/-! ### The commands -/

/-- Every command takes twins to twins. -/
theorem exec (h : LatchTwins s u) (i : Instr) : ∃ t v, exec i s = .next t ∧ exec i u = .next v ∧ LatchTwins t v := by
  cases i with
  | init => exact ⟨_, _, rfl, rfl, h.nextNow ▸ h.nowMs.scanButtons _ false⟩
  | read => exact ⟨_, _, rfl, rfl, h.readButtons.readPots⟩
  | write => exact ⟨_, _, rfl, rfl, h.writeLeds.advanceFrame⟩
  | rdbtn => exact ⟨_, _, rfl, rfl, h.readButtons⟩
  | rdpot => exact ⟨_, _, rfl, rfl, h.readPots⟩
  | wrled => exact ⟨_, _, rfl, rfl, h.writeLeds⟩
  | shin => exact ⟨_, _, rfl, rfl, h.shiftIn_fst ▸ h.shiftIn_snd.returnResult _⟩
  | shout order value => exact ⟨_, _, rfl, rfl, h.shiftOut order value⟩
  | setled row col val => exact ⟨_, _, rfl, rfl, h.rangeChecked _ fun r => h.setLedBit r _ val⟩
  | setrow row value => exact ⟨_, _, rfl, rfl, h.rangeChecked _ fun r => h.setLedRow r value⟩
  | getbtn row col => exact ⟨_, _, rfl, rfl, h.rangeChecked _ fun r => h.btnCur ▸ h.returnResult _⟩
  | listen slot en => exact ⟨_, _, rfl, rfl, h.rangeChecked _ fun j => h.setListener j en⟩
  | getcfg k => exact ⟨_, _, rfl, rfl, h.rangeChecked _ fun v => h.returnResult v⟩

/-- Two runs that appended to one history differ in what they appended only by writes of the button latch. -/
theorem newEvents_eq {t v : State} {as bs : List HistoryEvent} (h : LatchTwins t v) (ht : t.hist = s.hist ++ as)
    (hv : v.hist = s.hist ++ bs) : bs.filter offLatch = as.filter offLatch := by
  obtain ⟨level, latch, hist, rfl, same⟩ := h
  rw [show hist = s.hist ++ bs from hv, ht, List.filter_append, List.filter_append] at same
  exact List.append_cancel_left same

end LatchTwins

/-- Settles O47: from states that are twins every command leaves twins. -/
theorem latchLevelShowsOnLatchAlone : Obligations.LatchLevelShowsOnLatchAlone := by
  intro i s t level h
  obtain ⟨t', u, answered, answered', twins⟩ := (LatchTwins.withLevel s level).exec i
  cases h.symm.trans answered
  have events := twins.newEvents_eq (exec_records h).1.hist (exec_records answered').1.hist
  obtain ⟨_, _, _, rfl, -⟩ := twins
  exact ⟨_, answered', rfl, events⟩

end Sys2Proof.Machine
end

section
/-! PROOFS for spec/10_state.md. What the commands that run the lines do to the whole state, once; from that, who writes each element
of the state, what rests between commands, and what no command reads. -/

namespace Sys2Proof.Machine

/-! ## What a scan, an LED write and a pot pass do -/

/-- Written row by row in the order of a scan, a row array becomes the new one. -/
theorem set_rows_descending {α : Type} (v w : Vector α 5) :
    ((((v.set 4 w[4]).set 3 w[3]).set 2 w[2]).set 1 w[1]).set 0 w[0] = w := by
  ext i hi
  interval_cases i <;> simp

/-- Written channel by channel in the order of a pass, a channel array becomes the new one. -/
theorem set_channels_ascending {α : Type} (v w : Vector α 6) :
    (((((v.set 0 w[0]).set 1 w[1]).set 2 w[2]).set 3 w[3]).set 4 w[4]).set 5 w[5] = w := by
  ext i hi
  interval_cases i <;> simp

/-- A row's byte is made of the eight answers that follow those of the rows above it (rule R56). -/
theorem nextByte_drawBtnData (o : Oracle) (r : Row) : nextByte ((o.drawNow 1).drawBtnData (8 * (4 - r.val))) = sampledRow o r := by
  unfold nextByte sampledRow
  congr 1
  funext c
  rw [Oracle.btnDataAt_drawBtnData, Oracle.btnDataAt_drawNow]

section
variable {s u : State} {r r' : Row} (b : Byte) (now : Millis) (notify : Bool)

theorem rowPressTs_congr (cur : u.btnCur[r.val] = s.btnCur[r.val]) (pressed : u.pressTs[r.val] = s.pressTs[r.val]) :
    rowPressTs u b now r = rowPressTs s b now r := by
  simp only [rowPressTs, cur, pressed]

theorem rowEvents_congr (cur : u.btnCur[r.val] = s.btnCur[r.val]) (pressed : u.pressTs[r.val] = s.pressTs[r.val])
    (lsn : u.lsn = s.lsn) : rowEvents u b now notify r = rowEvents s b now notify r := by
  simp only [rowEvents, cur, pressed, lsn]

/-- The rows of a scan do not disturb each other: a row's timestamps are those it would get first. -/
theorem rowPressTs_scanRow (other : r' ≠ r) : rowPressTs (scanRow now notify s r') b now r = rowPressTs s b now r :=
  have apart : r'.val ≠ r.val := fun same => other (Fin.ext same)
  rowPressTs_congr b now (by simp [apart]) (by simp [apart])

/-- The rows of a scan do not disturb each other: a row's events are those it would give first. -/
theorem rowEvents_scanRow (other : r' ≠ r) : rowEvents (scanRow now notify s r') b now notify r = rowEvents s b now notify r :=
  have apart : r'.val ≠ r.val := fun same => other (Fin.ext same)
  rowEvents_congr b now notify (by simp [apart]) (by simp [apart]) (by simp)

end

theorem rowPressTs_sampledRow (s : State) (now : Millis) (r : Row) :
    rowPressTs (s.nowMs.pinWrite .btnLatch s.shiftLevel) (sampledRow s.oracle r) now r = (scannedPressTs s now)[r.val] := by
  simp [rowPressTs, scannedPressTs, risingEdge, sampledRows]

theorem rowEvents_sampledRow (s : State) (now : Millis) (notify : Bool) (r : Row) :
    rowEvents (s.nowMs.pinWrite .btnLatch s.shiftLevel) (sampledRow s.oracle r) now notify r =
      if notify then edgeEvents s (sampledRows s.oracle) now r else [] := by
  cases notify <;> simp [rowEvents, edgeEvents, risingEdge, fallingEdge, sampledRows]

theorem scannedPressTs_getElem (s : State) (now : Millis) (r : Row) (c : Col) :
    (scannedPressTs s now)[r.val][c.val] =
      if risingEdge s.btnCur (sampledRows s.oracle) r c then now else s.pressTs[r.val][c.val] := by
  simp [scannedPressTs]

/-- Everything a clock sample and a scan do (rules R113, R114, R116). -/
theorem scanButtons_eq (s : State) (notify : Bool) : scanButtons s.nextNow notify s.nowMs = scannedState s notify := by
  have row4 : nextByte (s.oracle.drawNow 1) = sampledRow s.oracle 4 := nextByte_drawBtnData s.oracle 4
  have row3 : nextByte ((s.oracle.drawNow 1).drawBtnData 8) = sampledRow s.oracle 3 := nextByte_drawBtnData s.oracle 3
  have row2 : nextByte ((s.oracle.drawNow 1).drawBtnData 16) = sampledRow s.oracle 2 := nextByte_drawBtnData s.oracle 2
  have row1 : nextByte ((s.oracle.drawNow 1).drawBtnData 24) = sampledRow s.oracle 1 := nextByte_drawBtnData s.oracle 1
  have row0 : nextByte ((s.oracle.drawNow 1).drawBtnData 32) = sampledRow s.oracle 0 := nextByte_drawBtnData s.oracle 0
  apply State.ext
  case btnCur =>
    simpa [scanButtons, buttonRowOrder, scannedState, sampledRows, row0, row1, row2, row3, row4]
      using set_rows_descending s.btnCur (sampledRows s.oracle)
  case btnPrev => simpa [scanButtons, buttonRowOrder, scannedState] using set_rows_descending s.btnPrev s.btnCur
  case pressTs =>
    simpa [scanButtons, buttonRowOrder, scannedState, row0, row1, row2, row3, row4, rowPressTs_scanRow, rowPressTs_sampledRow]
      using set_rows_descending s.pressTs (scannedPressTs s (s.oracle.nowAt 0))
  case hist =>
    simp [scanButtons, buttonRowOrder, scannedState, scanEvents, row0, row1, row2, row3, row4, rowEvents_scanRow,
      rowEvents_sampledRow]
  case pin => simp [scanButtons, buttonRowOrder, scannedState, Pins.drive]
  all_goals simp [scanButtons, buttonRowOrder, scannedState]

theorem readButtons_eq (s : State) :
    readButtons s = if throttled s.nextNow s.lastRead then s.nowMs else scannedState s true := by
  rw [readButtons, scanButtons_eq]

/-- Everything a pot pass does (rules R146, R153). -/
theorem readPots_eq (s : State) : readPots s = potPassState s := by
  have buckets := set_channels_ascending s.potQ (potPassState s).potQ
  have selected : #v[selBit 5 0, selBit 5 1, selBit 5 2] = #v[true, false, true] := by decide
  simpa [readPots, chanOrder, readPot_eq, potPassState, potPassEvents, potEvents, selected] using buckets

/-- Everything an LED write does (rule R131). -/
theorem writeLeds_eq (s : State) :
    writeLeds s = { s with pin := ledWrittenPins s, hist := s.hist ++ ledWriteEvents s } := by
  simp [writeLeds, ledRowOrder, writeLedRow_eq, State.pinWrite, Pins.drive, ledWrittenPins, ledWriteEvents, shownByte]

/-! ## The commands that check a range -/

theorem rowInRange_eq (row : BitVec 3) : rowInRange row = (rowOf row).isSome := by
  revert row; decide

theorem slotInRange_eq (slot : BitVec 2) : slotInRange slot = (slotOf slot).isSome := by
  revert slot; decide

theorem constInRange_eq (k : BitVec 2) : constInRange k = (constOf k).isSome := by
  revert k; decide

section
variable {α : Type} {operand : Option α} {s : State} {legal : α → State}

theorem rangeChecked_of_isNone (h : operand.isSome = false) : s.rangeChecked operand legal = s.raiseFault .range := by
  cases operand with
  | none => rfl
  | some a => cases h

theorem rangeChecked_of_isSome (h : operand.isSome = true) : ∃ a, s.rangeChecked operand legal = legal a := by
  cases operand with
  | none => cases h
  | some a => exact ⟨a, rfl⟩

end

/-- An operand out of range raises `Fault(RANGE)`, and that is the whole command (rule R172). -/
theorem exec_of_not_wellFormed {i : Instr} (s : State) (h : i.wellFormed = false) : exec i s = .next (s.raiseFault .range) := by
  cases i with
  | setled row col val => exact congrArg _ (rangeChecked_of_isNone (rowInRange_eq row ▸ h))
  | setrow row value => exact congrArg _ (rangeChecked_of_isNone (rowInRange_eq row ▸ h))
  | getbtn row col => exact congrArg _ (rangeChecked_of_isNone (rowInRange_eq row ▸ h))
  | listen slot en => exact congrArg _ (rangeChecked_of_isNone (slotInRange_eq slot ▸ h))
  | getcfg k => exact congrArg _ (rangeChecked_of_isNone (constInRange_eq k ▸ h))
  | _ => cases h

/-! ## The commands as whole-state updates -/

section
variable (s : State)

theorem exec_init : exec .init s = .next (scannedState s false) := by
  rw [← scanButtons_eq]; rfl

theorem exec_read : exec .read s = .next (potPassState (readButtons s)) := by
  rw [← readPots_eq]; rfl

theorem exec_write : exec .write s = .next (writeLeds s).advanceFrame := rfl

theorem exec_rdbtn : exec .rdbtn s = .next (readButtons s) := rfl

theorem exec_rdpot : exec .rdpot s = .next (potPassState s) := by
  rw [← readPots_eq]; rfl

theorem exec_wrled : exec .wrled s = .next (writeLeds s) := rfl

theorem exec_shin : exec .shin s = .next ((shiftIn s).2.returnResult (nextByte s.oracle)) := by
  rw [← shiftIn_fst]; rfl

theorem exec_shout (order : BitOrder) (value : Byte) : exec (.shout order value) s = .next (shiftOut order value s) := rfl

/-! The commands that check a range, each on a legal operand; `exec_of_not_wellFormed` says the rest. -/

theorem exec_setled {row : BitVec 3} (legal : rowInRange row = true) (col : BitVec 3) (val : Bool) :
    ∃ r, exec (.setled row col val) s = .next (s.setLedBit r (colOf col) val) :=
  (rangeChecked_of_isSome (rowInRange_eq row ▸ legal)).imp fun _ => congrArg Host.Outcome.next

theorem exec_setrow {row : BitVec 3} (legal : rowInRange row = true) (value : Byte) :
    ∃ r, exec (.setrow row value) s = .next (s.setLedRow r value) :=
  (rangeChecked_of_isSome (rowInRange_eq row ▸ legal)).imp fun _ => congrArg Host.Outcome.next

theorem exec_getbtn {row : BitVec 3} (legal : rowInRange row = true) (col : BitVec 3) :
    ∃ v, exec (.getbtn row col) s = .next (s.returnResult v) :=
  (rangeChecked_of_isSome (rowInRange_eq row ▸ legal)).elim fun _ e => ⟨_, congrArg Host.Outcome.next e⟩

theorem exec_listen {slot : BitVec 2} (legal : slotInRange slot = true) (en : Bool) :
    ∃ j, exec (.listen slot en) s = .next (s.setListener j en) :=
  (rangeChecked_of_isSome (slotInRange_eq slot ▸ legal)).imp fun _ => congrArg Host.Outcome.next

theorem exec_getcfg {k : BitVec 2} (legal : constInRange k = true) : ∃ v, exec (.getcfg k) s = .next (s.returnResult v) :=
  (rangeChecked_of_isSome (constInRange_eq k ▸ legal)).imp fun _ => congrArg Host.Outcome.next

end

/-! ## Who writes each element -/

/-- Settles O39: a command out of range writes `fault` alone; the update a legal one makes shows what it writes. -/
theorem writersOfEachRegister : Obligations.WritersOfEachRegister := by
  intro i s t h
  cases legal : i.wellFormed with
  | false =>
    cases (exec_of_not_wellFormed s legal).symm.trans h
    simp
  | true =>
    cases i with
    | init =>
      cases (exec_init s).symm.trans h
      simp [scannedState]
    | read =>
      cases (exec_read s).symm.trans h
      rw [readButtons_eq]
      split <;> simp [potPassState, scannedState]
    | write =>
      cases (exec_write s).symm.trans h
      simp [writeLeds_eq, ledWrittenPins]
    | rdbtn =>
      cases (exec_rdbtn s).symm.trans h
      rw [readButtons_eq]
      split <;> simp [scannedState]
    | rdpot =>
      cases (exec_rdpot s).symm.trans h
      simp [potPassState]
    | wrled =>
      cases (exec_wrled s).symm.trans h
      simp [writeLeds_eq, ledWrittenPins]
    | shin =>
      cases (exec_shin s).symm.trans h
      simp
    | shout order value =>
      cases (exec_shout s order value).symm.trans h
      simp
    | setled row col val =>
      obtain ⟨_, e⟩ := exec_setled s legal col val
      cases e.symm.trans h
      simp [State.setLedBit]
    | setrow row value =>
      obtain ⟨_, e⟩ := exec_setrow s legal value
      cases e.symm.trans h
      simp
    | getbtn row col =>
      obtain ⟨_, e⟩ := exec_getbtn s legal col
      cases e.symm.trans h
      simp
    | listen slot en =>
      obtain ⟨_, e⟩ := exec_listen s legal en
      cases e.symm.trans h
      simp
    | getcfg k =>
      obtain ⟨_, e⟩ := exec_getcfg s legal
      cases e.symm.trans h
      simp

/-! ## Reset -/

/-- Settles O15, by the reset table itself. -/
theorem resetState : Obligations.ResetState := by
  refine ⟨fun r => ⟨?btnCur, ?btnPrev, ?led, fun c => ?pressTs⟩, fun ch => ?potQ, rfl, rfl, rfl, rfl, rfl, rfl, rfl, rfl, rfl, rfl,
    rfl⟩
  all_goals simp [State.reset, State.resetAt]

/-- Every element of `S` at its reset value, whatever the strap and what is outside GSIO (rule R200). -/
def State.resetWith (level : Bool) (oracle : Oracle) (inbox : List HostInput) (hist : List HistoryEvent) : State :=
  { State.resetAt level with oracle := oracle, inbox := inbox, hist := hist }

theorem State.reset_eq : State.reset = .resetWith Config.btnLatchShiftLevel .unscripted [] [] := rfl

theorem State.assertReset_eq (s : State) : s.assertReset = .resetWith s.shiftLevel s.oracle s.inbox s.hist := rfl

theorem State.resetMidCommand_eq (s done : State) (n : Nat) :
    s.resetMidCommand done n =
      .resetWith s.shiftLevel (((newEvents s done).take n).foldl Oracle.after s.oracle) s.inbox (s.hist ++ (newEvents s done).take n) :=
  rfl

section
variable (level : Bool) (oracle : Oracle) (inbox : List HostInput) (hist : List HistoryEvent)

theorem State.resetWith_rested : (State.resetWith level oracle inbox hist).Rested := ⟨rfl, rfl, rfl, (by decide : 0 < 6), .inl rfl⟩

theorem State.resetWith_pressesRecorded : (State.resetWith level oracle inbox hist).PressesRecorded := by
  intro r c pressed
  simp [State.resetWith, State.resetAt] at pressed

end

/-- Settles O48: nothing is pressed and no event has been delivered yet. -/
theorem resetMeetsInvariants : Obligations.ResetMeetsInvariants := by
  unfold Obligations.ResetMeetsInvariants
  rw [State.reset_eq]
  exact ⟨State.resetWith_rested _ _ _ _, fun _ delivered => (List.not_mem_nil delivered).elim,
    State.resetWith_pressesRecorded _ _ _ _⟩

/-! ## What a step keeps -/

/-- A step can take an input from the inbox, raise `Fault(ILLEGAL)`, run a command where GSIO is not faulted, or RESET with part of
what has happened in the history; each keeps `P`. -/
structure StepKeeps (P : State → Prop) : Prop where
  inbox {s : State} (rest : List HostInput) : P s → P { s with inbox := rest }
  illegal {s : State} : s.fault = 0 → P s → P (s.raiseFault .illegal)
  command {i : Instr} {s t : State} : s.fault = 0 → P s → exec i s = .next t → P t
  reset {s : State} (level : Bool) (oracle : Oracle) (inbox : List HostInput) {hist : List HistoryEvent} :
    P s → hist <+: s.hist → P (State.resetWith level oracle inbox hist)

namespace StepKeeps

variable {P : State → Prop} {s t : State}

theorem issueWith {w : CmdWord} (keeps : StepKeeps P) (hs : P s) (h : issueWith exec w s = .next t) : P t := by
  have unfaulted (hf : s.faulted = false) : s.fault = 0 := by simpa [State.faulted] using hf
  obtain ⟨-, e⟩ | ⟨hf, -, e⟩ | ⟨hf, i, -, e⟩ := issueWith_cases exec w s <;> rw [e] at h
  · cases h; exact hs
  · cases h; exact keeps.illegal (unfaulted hf) hs
  · exact keeps.command (unfaulted hf) hs h

theorem takeInput {input : HostInput} (keeps : StepKeeps P) (hs : P s) (h : takeInput exec input s = .next t) : P t := by
  cases input with
  | cmd w => exact keeps.issueWith hs h
  | cmdThenReset w n =>
    obtain ⟨done, issued, rfl⟩ := issueThenReset_next h
    obtain ⟨hs', recorded, -⟩ := issueWith_records issued
    have seen : s.hist ++ (newEvents s done).take n <+: done.hist := by
      rw [recorded.newEvents_eq, recorded.hist]
      exact (List.prefix_append_right_inj _).2 (List.take_prefix n hs')
    rw [State.resetMidCommand_eq]
    exact keeps.reset _ _ _ (keeps.issueWith hs issued) seen
  | cmdUntaken w k => exact keeps.issueWith hs (issueUntaken_next h)
  | reset =>
    cases h
    rw [State.assertReset_eq]
    exact keeps.reset _ _ _ hs (List.prefix_refl _)

theorem step (keeps : StepKeeps P) (hs : P s) (h : step s = .next t) : P t := by
  cases hi : s.inbox with
  | nil => rw [step_idle hi] at h; cases h; exact hs
  | cons input rest => rw [step_cons hi] at h; exact keeps.takeInput (keeps.inbox rest hs) h

end StepKeeps

/-! ### The lines rest -/

namespace State.Rested

variable {s t : State}

/-- A command that drives no line and raises no fault. -/
theorem of_eq (h : s.Rested) (pin : t.pin = s.pin) (shiftLevel : t.shiftLevel = s.shiftLevel) (fault : t.fault = s.fault) :
    t.Rested :=
  ⟨by rw [pin, shiftLevel]; exact h.btnLatch, pin ▸ h.ledLatch, pin ▸ h.ledClk, pin ▸ h.channel, fault ▸ h.fault⟩

/-- The first fault sets one bit (rule R173). -/
theorem raiseFault (h : s.Rested) (unfaulted : s.fault = 0) (code : FaultCode) : (s.raiseFault code).Rested := by
  refine ⟨h.btnLatch, h.ledLatch, h.ledClk, h.channel, .inr ?_⟩
  rw [State.raiseFault_fault, unfaulted]
  cases code <;> decide

/-- A scan leaves the button latch deasserted (rule R113). -/
theorem scannedState (h : s.Rested) (notify : Bool) : (scannedState s notify).Rested :=
  ⟨rfl, h.ledLatch, h.ledClk, h.channel, h.fault⟩

theorem readButtons (h : s.Rested) : (readButtons s).Rested := by
  rw [readButtons_eq]
  split
  · exact h.of_eq rfl rfl rfl
  · exact h.scannedState true

/-- A pot pass leaves channel 5 selected (rule R59). -/
theorem potPassState (h : s.Rested) : (potPassState s).Rested := ⟨h.btnLatch, h.ledLatch, h.ledClk, (by decide : 5 < 6), h.fault⟩

/-- An LED write leaves its latch high and its clock low (rule R131). -/
theorem writeLeds (h : s.Rested) : (writeLeds s).Rested := by
  rw [writeLeds_eq]
  exact ⟨h.btnLatch, rfl, rfl, h.channel, h.fault⟩

theorem shiftIn (h : s.Rested) : (shiftIn s).2.Rested := by
  rw [shiftIn_eq]
  exact ⟨h.btnLatch, h.ledLatch, h.ledClk, h.channel, h.fault⟩

theorem shiftOut (h : s.Rested) (order : BitOrder) (value : Byte) : (shiftOut order value s).Rested := by
  rw [shiftOut_eq]
  exact ⟨h.btnLatch, h.ledLatch, rfl, h.channel, h.fault⟩

theorem rangeChecked {α : Type} (h : s.Rested) (unfaulted : s.fault = 0) (operand : Option α) {legal : α → State}
    (hl : ∀ a, (legal a).Rested) : (s.rangeChecked operand legal).Rested := by
  cases operand with
  | none => exact h.raiseFault unfaulted .range
  | some a => exact hl a

/-- Every command leaves the lines at rest. -/
theorem exec (h : s.Rested) (unfaulted : s.fault = 0) (i : Instr) : ∃ t, exec i s = .next t ∧ t.Rested := by
  cases i with
  | init => exact ⟨_, exec_init s, h.scannedState false⟩
  | read => exact ⟨_, exec_read s, h.readButtons.potPassState⟩
  | write => exact ⟨_, exec_write s, h.writeLeds.of_eq (by simp) (by simp) (by simp)⟩
  | rdbtn => exact ⟨_, exec_rdbtn s, h.readButtons⟩
  | rdpot => exact ⟨_, exec_rdpot s, h.potPassState⟩
  | wrled => exact ⟨_, exec_wrled s, h.writeLeds⟩
  | shin => exact ⟨_, exec_shin s, h.shiftIn.of_eq (by simp) (by simp) (by simp)⟩
  | shout order value => exact ⟨_, exec_shout s order value, h.shiftOut order value⟩
  | setled row col val => exact ⟨_, rfl, h.rangeChecked unfaulted _ fun _ => h.of_eq rfl rfl rfl⟩
  | setrow row value => exact ⟨_, rfl, h.rangeChecked unfaulted _ fun _ => h.of_eq rfl rfl rfl⟩
  | getbtn row col => exact ⟨_, rfl, h.rangeChecked unfaulted _ fun _ => h.of_eq rfl rfl rfl⟩
  | listen slot en => exact ⟨_, rfl, h.rangeChecked unfaulted _ fun _ => h.of_eq rfl rfl rfl⟩
  | getcfg k => exact ⟨_, rfl, h.rangeChecked unfaulted _ fun _ => h.of_eq rfl rfl rfl⟩

end State.Rested

theorem stepKeeps_rested : StepKeeps State.Rested where
  inbox _ h := h.of_eq rfl rfl rfl
  illegal unfaulted h := h.raiseFault unfaulted .illegal
  command {i s t} unfaulted h run := by
    obtain ⟨t', answered, rested⟩ := h.exec unfaulted i
    cases run.symm.trans answered
    exact rested
  reset level oracle inbox _ _ _ := State.resetWith_rested level oracle inbox _

/-- Settles O49, by the state every input and every command leaves. -/
theorem stepKeepsLinesRested : Obligations.StepKeepsLinesRested := fun _ _ => stepKeeps_rested.step

/-! ### Every pressed cell has a recorded press -/

namespace State.PressesRecorded

variable {s t : State}

theorem of_eq (h : s.PressesRecorded) (cur : t.btnCur = s.btnCur) (pressed : t.pressTs = s.pressTs) (grows : s.hist <+: t.hist) :
    t.PressesRecorded := by
  intro r c down
  rw [cur] at down
  rw [pressed]
  exact grows.subset (h r c down)

/-- A cell pressed after a scan was pressed before it, or has just been stamped with the scan's clock sample (rule R113). -/
theorem scannedState (h : s.PressesRecorded) (notify : Bool) : (scannedState s notify).PressesRecorded := by
  intro r c down
  change HistoryEvent.t (scannedPressTs s (s.oracle.nowAt 0))[r.val][c.val] ∈ s.hist ++ _ :: _
  rw [scannedPressTs_getElem]
  cases rising : risingEdge s.btnCur (sampledRows s.oracle) r c with
  | true => simp
  | false =>
    have pressed : (sampledRows s.oracle)[r.val].getLsbD c.val = true := down
    have held : s.btnCur[r.val].getLsbD c.val = true := by
      simpa only [risingEdge, pressed, Bool.and_true, Bool.not_eq_false'] using rising
    exact List.mem_append_left _ (h r c held)

theorem readButtons (h : s.PressesRecorded) : (readButtons s).PressesRecorded := by
  rw [readButtons_eq]
  split
  · exact h.of_eq rfl rfl (List.prefix_append _ _)
  · exact h.scannedState true

/-- A command that makes no scan moves no cell (rules R21, R23). -/
theorem exec {i : Instr} (h : s.PressesRecorded) (run : exec i s = .next t) : t.PressesRecorded := by
  obtain ⟨scans, -⟩ := writersOfEachRegister i s t run
  by_cases scanning : i = .init ∨ i = .rdbtn ∨ i = .read
  · obtain rfl | rfl | rfl := scanning
    · cases (exec_init s).symm.trans run; exact h.scannedState false
    · cases (exec_rdbtn s).symm.trans run; exact h.readButtons
    · cases (exec_read s).symm.trans run; exact h.readButtons.of_eq rfl rfl (List.prefix_append _ _)
  · have cur : t.btnCur = s.btnCur := by_contra fun moved => scanning (scans (.inl moved))
    have pressed : t.pressTs = s.pressTs := by_contra fun moved => scanning (scans (.inr (.inr (.inl moved))))
    exact h.of_eq cur pressed ⟨_, (exec_records run).1.hist.symm⟩

end State.PressesRecorded

theorem stepKeeps_pressesRecorded : StepKeeps State.PressesRecorded where
  inbox _ h := h.of_eq rfl rfl (List.prefix_refl _)
  illegal _ h := h.of_eq rfl rfl (List.prefix_refl _)
  command _ h run := h.exec run
  reset level oracle inbox _ _ _ := State.resetWith_pressesRecorded level oracle inbox _

/-- Settles O51: only a scan moves a cell, and it stamps the cells it finds newly pressed. -/
theorem stepKeepsPressesRecorded : Obligations.StepKeepsPressesRecorded := fun _ _ => stepKeeps_pressesRecorded.step

/-! ## What no command reads -/

/-- The same registers behind other pin levels and another history. -/
def State.withOutputs (s : State) (pins : Pins) (hist : List HistoryEvent) : State := { s with pin := pins, hist := hist }

/-- The operation changes the registers and appends events whatever the pin levels and the history are. -/
def Blind (f : State → State) : Prop :=
  ∀ s, ∃ events, ∀ pins hist, ∃ pins', f (s.withOutputs pins hist) = (f s).withOutputs pins' (hist ++ events)

namespace Blind

variable {f g : State → State}

theorem comp (hg : Blind g) (hf : Blind f) : Blind fun s => g (f s) := by
  intro s
  obtain ⟨first, run⟩ := hf s
  obtain ⟨second, run'⟩ := hg (f s)
  refine ⟨first ++ second, fun pins hist => ?_⟩
  obtain ⟨pins', e⟩ := run pins hist
  obtain ⟨pins'', e'⟩ := run' pins' (hist ++ first)
  exact ⟨pins'', by simp only [e, e', List.append_assoc]⟩

/-- An operation on registers, which appends nothing. -/
theorem registers (hf : ∀ s pins hist, f (s.withOutputs pins hist) = (f s).withOutputs pins hist) : Blind f :=
  fun s => ⟨[], fun pins hist => ⟨pins, by rw [hf, List.append_nil]⟩⟩

theorem nowMs : Blind State.nowMs := fun s => ⟨[.t s.nextNow], fun _ _ => ⟨_, rfl⟩⟩

theorem returnResult (v : State → Byte) (hv : ∀ s pins hist, v (s.withOutputs pins hist) = v s) :
    Blind fun s => s.returnResult (v s) :=
  fun s => ⟨[.res (v s)], fun pins hist => ⟨pins, by simp only [hv]; rfl⟩⟩

theorem scannedState (notify : Bool) : Blind fun s => scannedState s notify :=
  fun s => ⟨.t (s.oracle.nowAt 0) :: scanEvents s (s.oracle.nowAt 0) notify, fun _ _ => ⟨_, rfl⟩⟩

/-- The debounce guard looks at the clock and at `last_read` (rule R111). -/
theorem readButtons : Blind readButtons := by
  intro s
  have guard (pins : Pins) (hist : List HistoryEvent) :
      throttled (s.withOutputs pins hist).nextNow (s.withOutputs pins hist).lastRead = throttled s.nextNow s.lastRead := rfl
  simp only [readButtons_eq, guard]
  split
  · exact nowMs s
  · exact scannedState true s

theorem potPassState : Blind potPassState := fun s => ⟨potPassEvents s, fun _ _ => ⟨_, rfl⟩⟩

theorem writeLeds : Blind writeLeds := by
  intro s
  simp only [writeLeds_eq]
  exact ⟨ledWriteEvents s, fun _ _ => ⟨_, rfl⟩⟩

theorem shin : Blind fun s => (shiftIn s).2.returnResult (nextByte s.oracle) := by
  intro s
  simp only [shiftIn_eq]
  exact ⟨shiftInEvents (nextByte s.oracle) ++ [.res (nextByte s.oracle)],
    fun _ hist => ⟨_, by rw [← List.append_assoc]; rfl⟩⟩

theorem shiftOut (order : BitOrder) (value : Byte) : Blind (shiftOut order value) := by
  intro s
  simp only [shiftOut_eq]
  exact ⟨shiftOutEvents order value, fun _ _ => ⟨_, rfl⟩⟩

theorem rangeChecked {α : Type} (operand : Option α) {legal : α → State → State} (hl : ∀ a, Blind (legal a)) :
    Blind fun s => s.rangeChecked operand fun a => legal a s := by
  cases operand with
  | none => exact registers fun _ _ _ => rfl
  | some a => exact hl a

/-- Every command is blind. -/
theorem exec (i : Instr) : ∃ f, Blind f ∧ ∀ s, exec i s = .next (f s) := by
  cases i with
  | init => exact ⟨_, scannedState false, exec_init⟩
  | read => exact ⟨_, potPassState.comp readButtons, exec_read⟩
  | write => exact ⟨_, comp (registers fun _ _ _ => rfl) writeLeds, exec_write⟩
  | rdbtn => exact ⟨_, readButtons, exec_rdbtn⟩
  | rdpot => exact ⟨_, potPassState, exec_rdpot⟩
  | wrled => exact ⟨_, writeLeds, exec_wrled⟩
  | shin => exact ⟨_, shin, exec_shin⟩
  | shout order value => exact ⟨_, shiftOut order value, fun s => exec_shout s order value⟩
  | setled row col val =>
    exact ⟨_, rangeChecked (rowOf row) (legal := fun r s => s.setLedBit r (colOf col) val) fun _ =>
      registers fun _ _ _ => rfl, fun _ => rfl⟩
  | setrow row value =>
    exact ⟨_, rangeChecked (rowOf row) (legal := fun r s => s.setLedRow r value) fun _ =>
      registers fun _ _ _ => rfl, fun _ => rfl⟩
  | getbtn row col => exact ⟨_, rangeChecked (rowOf row) fun _ => returnResult _ fun _ _ _ => rfl, fun _ => rfl⟩
  | listen slot en =>
    exact ⟨_, rangeChecked (slotOf slot) (legal := fun j s => s.setListener j en) fun _ =>
      registers fun _ _ _ => rfl, fun _ => rfl⟩
  | getcfg k => exact ⟨_, rangeChecked (constOf k) fun v => returnResult (fun _ => v) fun _ _ _ => rfl, fun _ => rfl⟩

end Blind

/-- Settles O45: a command is blind, and its pins are the levels it has written. -/
theorem pinsAndHistoryNeverRead : Obligations.PinsAndHistoryNeverRead := by
  intro i s t pins hist h
  obtain ⟨f, blind, runs⟩ := Blind.exec i
  cases h.symm.trans (runs s)
  obtain ⟨events, same⟩ := blind s
  obtain ⟨_, own⟩ := same s.pin s.hist
  obtain ⟨pins', other⟩ := same pins hist
  have appended : newEvents s (f s) = events := by
    have grown : (f s).hist = s.hist ++ events := congrArg State.hist own
    simp [newEvents, grown]
  have driven : pins' = pins.afterEvents events := by
    have follows := (exec_records (runs (s.withOutputs pins hist))).2
    rw [other] at follows
    simpa [newEvents, State.withOutputs] using follows
  rw [appended]
  calc exec i (s.withOutputs pins hist) = .next ((f s).withOutputs pins' (hist ++ events)) := by rw [runs, other]
    _ = .next ((f s).withOutputs (pins.afterEvents events) (hist ++ events)) := by rw [driven]

end Sys2Proof.Machine
end

section
/-! PROOFS for spec/20_memory.md. The frames that cross the pins, bit by bit; and, with the reference environment of rules R70 to R73,
what a scan, an LED write and a pot pass carry across them while the world behind the pins goes on. -/

namespace Sys2Proof.Machine

/-! ## The commands that move a frame -/

theorem throttled_eq_false {now last : Millis} (due : 10 ≤ (now - last).toNat) : throttled now last = false :=
  decide_eq_false (Nat.not_lt.2 due)

theorem readButtons_of_due {s : State} (due : 10 ≤ (s.oracle.nowAt 0 - s.lastRead).toNat) : readButtons s = scannedState s true := by
  simp [readButtons_eq, throttled_eq_false due]

/-- An accepted scan of INIT, RDBTN or READ stores the sampled rows; only READ appends anything after it, the pot pass. -/
theorem exec_of_scans {s : State} {i : Instr} (h : s.Scans i) :
    ∃ t notify rest, exec i s = .next t ∧ t.btnCur = sampledRows s.oracle ∧
      t.hist = s.hist ++ (.t (s.oracle.nowAt 0) :: scanEvents s (s.oracle.nowAt 0) notify ++ rest) ∧
      (rest = [] ∨ rest = potPassEvents (scannedState s true)) := by
  obtain rfl | ⟨rfl | rfl, due⟩ := h
  · exact ⟨_, false, [], exec_init s, rfl, by simp [scannedState], .inl rfl⟩
  · exact ⟨_, true, [], exec_rdbtn s, by simp [readButtons_of_due due, scannedState],
      by simp [readButtons_of_due due, scannedState], .inl rfl⟩
  · exact ⟨_, true, _, exec_read s, by simp [readButtons_of_due due, scannedState, potPassState],
      by simp [readButtons_of_due due, scannedState, potPassState], .inr rfl⟩

/-- WRLED and WRITE append one LED write. -/
theorem exec_of_ledWrite (s : State) {i : Instr} (h : i = .wrled ∨ i = .write) :
    ∃ t, exec i s = .next t ∧ newEvents s t = ledWriteEvents s := by
  obtain rfl | rfl := h
  · exact ⟨_, exec_wrled s, by simp [writeLeds_eq, newEvents]⟩
  · exact ⟨_, exec_write s, by simp [writeLeds_eq, newEvents]⟩

/-- RDPOT and READ end with one pot pass, and only append to the history before it. -/
theorem exec_of_potPass (s : State) {i : Instr} (h : i = .rdpot ∨ i = .read) :
    ∃ u hs, exec i s = .next (potPassState u) ∧ u.hist = s.hist ++ hs := by
  obtain rfl | rfl := h
  · exact ⟨s, [], exec_rdpot s, by simp⟩
  · exact ⟨readButtons s, newEvents s (readButtons s), exec_read s, (exec_records (exec_rdbtn s)).1.hist⟩

/-! ## The order of a frame -/

/-- Sample `8·(4-r)+c` is bit `c` of the byte stored for row `r` (rules R55, R56). -/
theorem sampledRows_getLsbD (o : Oracle) (r : Row) (c : Col) :
    (sampledRows o)[r.val].getLsbD c.val = o.btnDataAt (8 * (4 - r.val) + c.val) := by
  rw [sampledRows, Vector.getElem_ofFn]
  exact getLsbD_byteOf _ _ c.isLt

/-- Settles O23: the rows are stored from the top, eight samples each. -/
theorem buttonFrameOrder : Obligations.ButtonFrameOrder := by
  intro s i scans
  obtain ⟨t, -, -, answered, rows, -⟩ := exec_of_scans scans
  refine ⟨t, answered, fun n => ?_⟩
  have place : 8 * (4 - (4 - n.val / 8)) + n.val % 8 = n.val := by omega
  have cell := sampledRows_getLsbD s.oracle ⟨4 - n.val / 8, by omega⟩ ⟨n.val % 8, by omega⟩
  rw [place] at cell
  simpa only [rows] using cell

/-- A blanked row is all zeros (rule R131). -/
theorem shownByte_getLsbD (s : State) (r : Row) (i : Nat) :
    (shownByte s r).getLsbD i = (s.frame.toNat % 2 == 0 && s.led[r.val].getLsbD i) := by
  unfold shownByte
  split <;> simp [*]

section
variable (p q : Pin) (b : Bool) (hs hs' : List HistoryEvent)

@[simp] theorem drivenLevels_nil : drivenLevels p [] = [] := rfl

@[simp] theorem drivenLevels_append : drivenLevels p (hs ++ hs') = drivenLevels p hs ++ drivenLevels p hs' := List.filterMap_append

@[simp] theorem drivenLevels_flatMap {α : Type} (l : List α) (f : α → List HistoryEvent) :
    drivenLevels p (l.flatMap f) = l.flatMap fun a => drivenLevels p (f a) := List.filterMap_flatMap

theorem drivenLevels_w : drivenLevels p (.w q b :: hs) = if q = p then b :: drivenLevels p hs else drivenLevels p hs := by
  unfold drivenLevels
  split <;> simp [*]

@[simp] theorem drivenLevels_w_same : drivenLevels p (.w p b :: hs) = b :: drivenLevels p hs := by
  simp [drivenLevels_w]

@[simp] theorem drivenLevels_w_other (h : q ≠ p) : drivenLevels p (.w q b :: hs) = drivenLevels p hs := by
  simp [drivenLevels_w, h]

@[simp] theorem drivenLevels_r (pin : InPin) : drivenLevels p (.r pin b :: hs) = drivenLevels p hs := rfl

@[simp] theorem drivenLevels_d (us : Nat) : drivenLevels p (.d us :: hs) = drivenLevels p hs := rfl

@[simp] theorem drivenLevels_a (raw : Raw) : drivenLevels p (.a raw :: hs) = drivenLevels p hs := rfl

theorem drivenLevels_shiftOutEvents (value : Byte) :
    drivenLevels .ledData (shiftOutEvents .lsbFirst value) = bitOrder.map fun i => value.getLsbD i.val := by
  simp [shiftOutEvents, outBit, bitOrder]

end

/-- Settles O28: the rows go out from the bottom, each byte low bit first. -/
theorem ledFrameOrder : Obligations.LedFrameOrder := by
  intro s i write
  obtain ⟨t, answered, events⟩ := exec_of_ledWrite s write
  refine ⟨t, answered, ?_⟩
  have place (r : Fin 5) (i : Fin 8) : (r.val * 8 + i.val) / 8 = r.val ∧ (r.val * 8 + i.val) % 8 = i.val := by omega
  have rows : ledRowOrder = List.finRange 5 := by decide
  have bits : bitOrder = List.finRange 8 := by decide
  calc drivenLevels .ledData (newEvents s t)
      = ledRowOrder.flatMap fun r => bitOrder.map fun i => (shownByte s r).getLsbD i.val := by
        simp [events, ledWriteEvents, drivenLevels_shiftOutEvents, -BitVec.getLsbD_eq_getElem]
    _ = List.ofFn fun n : Fin (5 * 8) => (s.frame.toNat % 2 == 0) && (s.led[n.val / 8]'(by omega)).getLsbD (n.val % 8) := by
        rw [List.ofFn_mul]
        simp only [place, shownByte_getLsbD, rows, bits, List.ofFn_eq_map, List.flatMap_def]

/-! ## READ and the LEDs -/

/-- The same state with other LED rows and another frame counter. -/
def State.withLeds (s : State) (led : Vector Byte 5) (frame : Byte) : State := { s with led := led, frame := frame }

theorem readButtons_withLeds (s : State) (led : Vector Byte 5) (frame : Byte) :
    readButtons (s.withLeds led frame) = (readButtons s).withLeds led frame := by
  have guard : throttled (s.withLeds led frame).nextNow (s.withLeds led frame).lastRead = throttled s.nextNow s.lastRead := rfl
  rw [readButtons_eq, readButtons_eq, guard]
  split <;> rfl

theorem potPassState_withLeds (s : State) (led : Vector Byte 5) (frame : Byte) :
    potPassState (s.withLeds led frame) = (potPassState s).withLeds led frame := rfl

/-- Settles O46: both halves of READ do the same beside other LEDs. -/
theorem readIgnoresLeds : Obligations.ReadIgnoresLeds := by
  intro s t led frame h
  cases h.symm.trans (exec_read s)
  calc exec .read (s.withLeds led frame) = .next (potPassState (readButtons (s.withLeds led frame))) := exec_read _
    _ = .next ((potPassState (readButtons s)).withLeds led frame) := by rw [readButtons_withLeds, potPassState_withLeds]

/-! ## Timelines cut at an event of GSIO -/

/-- Where GSIO's part of a timeline can be cut, the timeline can. -/
theorem gsioPart_eq_append {timeline : List WorldEvent} {as bs : List HistoryEvent}
    (h : gsioPart timeline = seenEvents (as ++ bs)) :
    ∃ before after, timeline = before ++ after ∧ gsioPart before = seenEvents as ∧ gsioPart after = seenEvents bs := by
  rw [seenEvents_append] at h
  exact List.filter_eq_append_iff.1 h

/-- A timeline cut at one of GSIO's events. -/
theorem gsioPart_eq_at {timeline : List WorldEvent} {as bs : List HistoryEvent} {h : HistoryEvent}
    (shown : gsioPart timeline = seenEvents (as ++ h :: bs)) :
    ∃ before after, timeline = before ++ .seen h :: after ∧ gsioPart before = seenEvents as ∧ gsioPart after = seenEvents bs := by
  obtain ⟨before, rest, rfl, before_shown, rest_shown⟩ := gsioPart_eq_append shown
  obtain ⟨quiet, after, rfl, quiet_world, -, after_shown⟩ := List.filter_eq_cons_iff.1 rest_shown
  have quiet_shown : gsioPart quiet = [] := List.filter_eq_nil_iff.2 quiet_world
  exact ⟨before ++ quiet, after, by simp, by simp [before_shown, quiet_shown], after_shown⟩

/-- Following a timeline past one of GSIO's events: what was there before it, and what it left. -/
theorem Env.follow_at {v v' : Env} {before after : List WorldEvent} {h : HistoryEvent}
    (followed : v.follow (before ++ .seen h :: after) = some v') :
    ∃ m n, v.follow before = some m ∧ m.observe h = some n ∧ n.follow after = some v' := by
  rw [Env.follow_append] at followed
  obtain ⟨m, reached, followed⟩ := Option.bind_eq_some_iff.1 followed
  rw [Env.follow_cons] at followed
  obtain ⟨n, observed, followed⟩ := Option.bind_eq_some_iff.1 followed
  exact ⟨m, n, reached, observed, followed⟩

/-! ## The clock -/

theorem Env.react_clockMs_le {v v' : Env} {e : WorldEvent} (hr : v.react e = some v') : v.clockMs ≤ v'.clockMs := by
  cases e with
  | seen h =>
    obtain ⟨p, b, -, rfl⟩ | ⟨rfl, -⟩ := Env.observe_cases hr
    · simp
    · exact Nat.le_refl _
  | elapse ms => cases hr; exact Nat.le_add_right _ _
  | reset => cases hr; exact Nat.le_refl _
  | button r c held => cases hr; exact Nat.le_refl _
  | turn ch raw => cases hr; exact Nat.le_refl _

theorem Env.follow_clockMs_le {v v' : Env} {timeline : List WorldEvent} (h : v.follow timeline = some v') :
    v.clockMs ≤ v'.clockMs := by
  induction timeline generalizing v with
  | nil => cases h; exact Nat.le_refl _
  | cons e rest ih =>
    rw [Env.follow_cons] at h
    obtain ⟨m, reacted, followed⟩ := Option.bind_eq_some_iff.1 h
    exact (Env.react_clockMs_le reacted).trans (ih followed)

theorem Env.observe_t {v v' : Env} {ms : Millis} (h : v.observe (.t ms) = some v') : v' = v ∧ ms = v.now := by
  simp only [Env.observe, Option.ite_none_right_eq_some, Option.some.injEq] at h
  exact ⟨h.2.symm, h.1⟩

/-- Settles O59: nothing that happens turns the clock back, and a clock sample is refused unless it is the clock's. -/
theorem clockNeverDecreases : Obligations.ClockNeverDecreases := by
  intro v v' before after ms h
  obtain ⟨m, n, reached, observed, followed⟩ := Env.follow_at h
  obtain ⟨rfl, rfl⟩ := Env.observe_t observed
  exact ⟨n, reached, Env.follow_clockMs_le reached, BitVec.toNat_ofNat _ _, Env.follow_clockMs_le followed⟩

/-! ## The potentiometers -/

theorem Env.follow_physPot {v v' : Env} {timeline : List WorldEvent} (h : v.follow timeline = some v')
    (untouched : ∀ ch raw, WorldEvent.turn ch raw ∉ timeline) : v'.physPot = v.physPot := by
  induction timeline generalizing v with
  | nil => cases h; rfl
  | cons e rest ih =>
    rw [Env.follow_cons] at h
    obtain ⟨m, reacted, followed⟩ := Option.bind_eq_some_iff.1 h
    simp only [List.mem_cons, not_or] at untouched
    rw [ih followed fun ch raw => (untouched ch raw).2]
    exact Env.react_physPot reacted fun ch raw same => (untouched ch raw).1 same.symm

theorem Env.observe_a {v v' : Env} {raw : Raw} (h : v.observe (.a raw) = some v') : v' = v ∧ v.givesRaw raw = true := by
  simp only [Env.observe, Option.ite_none_right_eq_some, Option.some.injEq] at h
  exact ⟨h.2.symm, h.1⟩

/-- The writes of a channel's code leave the multiplexer on that channel (rules R59, R73). -/
theorem Pins.selected_afterEvents_selectEvents (p : Pins) (ch : Chan) : (p.afterEvents (selectEvents ch)).selected = ch.val := by
  have lines (b₀ b₁ b₂ : Bool) :
      (p.afterEvents [.w (.sel 0) b₀, .w (.sel 1) b₁, .w (.sel 2) b₂]).selected = b₂.toNat * 4 + b₁.toNat * 2 + b₀.toNat := by
    simp [Pins.afterEvents, Pins.selected]
  have code : (ch.val.testBit 2).toNat * 4 + (ch.val.testBit 1).toNat * 2 + (ch.val.testBit 0).toNat = ch.val := by
    revert ch; decide
  rw [selectEvents, lines, code]

/-- The place of a channel's sample in a pot pass: right after the channel has been selected. -/
theorem potPassEvents_eq_at (s : State) (ch : Chan) :
    ∃ as bs, potPassEvents s = (as ++ selectEvents ch) ++ .a (s.oracle.ainAt ch.val) :: bs := by
  have mem : ch ∈ chanOrder := by revert ch; decide
  obtain ⟨earlier, later, order⟩ := List.append_of_mem mem
  have cut (f : Chan → List HistoryEvent) : chanOrder.flatMap f = earlier.flatMap f ++ (f ch ++ later.flatMap f) := by
    simp [order]
  rw [potPassEvents, cut]
  exact ⟨_, _, by simp only [List.append_assoc, List.cons_append]; rfl⟩

/-- Settles O56: each sample is taken with its channel selected, and no potentiometer has been turned since the start. -/
theorem potPassReadsPots : Obligations.PotPassReadsPots := by
  intro v v' s t i timeline pass answered shown untouched followed ch
  obtain ⟨u, hs, answer, grown⟩ := exec_of_potPass s pass
  cases answered.symm.trans answer
  obtain ⟨as, bs, place⟩ := potPassEvents_eq_at u ch
  have events : newEvents s (potPassState u) = (hs ++ as ++ selectEvents ch) ++ .a (u.oracle.ainAt ch.val) :: bs := by
    simp [newEvents, potPassState, grown, place]
  rw [events] at shown
  obtain ⟨before, after, rfl, before_shown, -⟩ := gsioPart_eq_at shown
  obtain ⟨m, n, reached, observed, -⟩ := Env.follow_at followed
  obtain ⟨-, gives⟩ := Env.observe_a observed
  have pots : m.physPot = v.physPot := Env.follow_physPot reached fun ch raw turned => untouched ch raw (by simp [turned])
  have selected : m.pin.selected = ch.val := by
    rw [(Env.follow_pins reached).2, before_shown, Pins.foldl_seenEvents, Pins.afterEvents_append,
      Pins.selected_afterEvents_selectEvents]
  have sample : u.oracle.ainAt ch.val = v.physPot[ch.val] := by
    simpa [Env.givesRaw, selected, pots] using gives
  simp [potPassState, sample]

/-! ## What GSIO's events lead to while the world goes on -/

/-- What holds of an environment holds on when something happens in the world behind the pins. -/
def Undisturbed (P : Env → Prop) : Prop :=
  ∀ (v v' : Env) (e : WorldEvent), e.ofGsio = false → v.react e = some v' → P v → P v'

/-- An environment of which `P` holds and that sees these events, whatever happens in the world meanwhile, is one of which `Q` holds. -/
def Leads (P : Env → Prop) (hs : List HistoryEvent) (Q : Env → Prop) : Prop :=
  ∀ (v v' : Env) (timeline : List WorldEvent), P v → gsioPart timeline = seenEvents hs → v.follow timeline = some v' → Q v'

namespace Undisturbed

/-- The world behind the pins moves neither pins nor cascades. -/
theorem of_devices {P : Env → Prop}
    (h : ∀ {v v' : Env}, v'.shiftLevel = v.shiftLevel → v'.pin = v.pin → v'.bq = v.bq → v'.bhead = v.bhead → v'.lsr = v.lsr →
      P v → P v') : Undisturbed P := by
  intro v v' e world reacted
  obtain ⟨_, answer, level, pin, captured, head, bits, -⟩ := v.react_world world
  cases answer.symm.trans reacted
  exact h level pin captured head bits

theorem pins (P : Pins → Prop) : Undisturbed fun v => P v.pin :=
  of_devices fun _ pin _ _ _ (h : P _) => show P _ from pin ▸ h

theorem and {P Q : Env → Prop} (hP : Undisturbed P) (hQ : Undisturbed Q) : Undisturbed fun v => P v ∧ Q v :=
  fun v v' e world reacted h => ⟨hP v v' e world reacted h.1, hQ v v' e world reacted h.2⟩

end Undisturbed

namespace Leads

variable {P Q R : Env → Prop} {as bs : List HistoryEvent}

theorem nil (stable : Undisturbed P) : Leads P [] P := by
  intro v v' timeline hv shown followed
  induction timeline generalizing v with
  | nil => cases followed; exact hv
  | cons e rest ih =>
    rw [Env.follow_cons] at followed
    obtain ⟨m, reacted, followed⟩ := Option.bind_eq_some_iff.1 followed
    have world := List.filter_eq_nil_iff.1 shown
    exact ih m (stable v m e (Bool.eq_false_of_not_eq_true (world e List.mem_cons_self)) reacted hv)
      (List.filter_eq_nil_iff.2 fun e' he' => world e' (List.mem_cons_of_mem e he')) followed

theorem append (first : Leads P as Q) (second : Leads Q bs R) : Leads P (as ++ bs) R := by
  intro v v' timeline hv shown followed
  obtain ⟨before, after, rfl, before_shown, after_shown⟩ := gsioPart_eq_append shown
  rw [Env.follow_append] at followed
  obtain ⟨m, reached, followed⟩ := Option.bind_eq_some_iff.1 followed
  exact second m v' after (first v m before hv before_shown reached) after_shown followed

/-- One event of GSIO, and then the rest. -/
theorem cons {h : HistoryEvent} (stable : Undisturbed P) (event : ∀ {v v'}, P v → v.observe h = some v' → Q v')
    (rest : Leads Q bs R) : Leads P (h :: bs) R := by
  intro v v' timeline hv shown followed
  obtain ⟨before, after, rfl, before_shown, after_shown⟩ := gsioPart_eq_at (as := []) shown
  obtain ⟨m, n, reached, observed, followed⟩ := Env.follow_at followed
  exact rest n v' after (event (nil stable v m before hv before_shown reached) observed) after_shown followed

theorem write {p : Pin} {b : Bool} (stable : Undisturbed P) (event : ∀ {v}, P v → Q (v.pinWritten p b)) (rest : Leads Q bs R) :
    Leads P (.w p b :: bs) R :=
  cons stable (fun hv observed => Option.some.inj observed ▸ event hv) rest

/-- A loop: the `k`-th turn takes what holds before it to what holds before the next. -/
theorem flatMap {α : Type} {I : Nat → Env → Prop} {f : α → List HistoryEvent} (l : List α) (stable : ∀ k, Undisturbed (I k))
    (turn : ∀ k : Fin l.length, Leads (I k.val) (f l[k.val]) (I (k.val + 1))) : Leads (I 0) (l.flatMap f) (I l.length) := by
  induction l generalizing I with
  | nil => exact nil (stable 0)
  | cons a l ih =>
    rw [List.flatMap_cons]
    exact append (turn 0) (ih (I := fun k => I (k + 1)) (fun k => stable (k + 1)) fun k => turn k.succ)

end Leads

/-! ### Event words -/

/-- Nothing but event words, of which the devices know nothing. -/
def OnlyWords (hs : List HistoryEvent) : Prop := ∀ h ∈ hs, ∃ word, h = .e word

theorem emitted_onlyWords (lsn : BitVec 3) (ev : Event) : OnlyWords (emitted lsn ev) := by
  unfold emitted
  split <;> simp [OnlyWords]

theorem edgeEvents_onlyWords (s : State) (new : Vector Byte 5) (now : Millis) (r : Row) : OnlyWords (edgeEvents s new now r) := by
  intro h mem
  obtain ⟨c, -, mem⟩ := List.mem_flatMap.1 mem
  split at mem
  · exact emitted_onlyWords _ _ h mem
  · split at mem
    · exact emitted_onlyWords _ _ h mem
    · cases mem

theorem potEvents_onlyWords (s : State) (ch : Chan) (raw : Raw) : OnlyWords (potEvents s ch raw) := by
  unfold potEvents
  split
  · simp [OnlyWords]
  · exact emitted_onlyWords _ _

theorem OnlyWords.drivenLevels {hs : List HistoryEvent} (words : OnlyWords hs) (p : Pin) : drivenLevels p hs = [] := by
  refine List.filterMap_eq_nil_iff.2 fun h mem => ?_
  obtain ⟨word, rfl⟩ := words h mem
  rfl

theorem OnlyWords.leads {P : Env → Prop} {hs : List HistoryEvent} (words : OnlyWords hs) (stable : Undisturbed P) : Leads P hs P := by
  induction hs with
  | nil => exact .nil stable
  | cons h hs ih =>
    obtain ⟨word, rfl⟩ := words h List.mem_cons_self
    exact .cons stable (fun hv observed => Option.some.inj observed ▸ hv) (ih fun h' mem => words h' (List.mem_cons_of_mem _ mem))

/-! ## The button cascade -/

/-- The cascade holds a captured frame, has been shifted `head` times, and has given the first `read` samples of a scan. -/
structure Env.Framing (o : Oracle) (frame : Vector Bool 40) (head read : Nat) (v : Env) : Prop where
  latched : v.pin.btnLatch = v.shiftLevel
  captured : v.bq = frame
  head : v.bhead.val = head
  given : ∀ n (h : n < 40), n < read → o.btnDataAt n = frame[n]

section
variable {o : Oracle} {frame : Vector Bool 40} {head read : Nat} {v v' : Env}

theorem Env.framing_undisturbed : Undisturbed (Env.Framing o frame head read) :=
  .of_devices fun level pin captured shifted _ h =>
    ⟨by rw [pin, level, h.latched], captured.trans h.captured, by rw [shifted, h.head], h.given⟩

theorem Env.framing_low_undisturbed : Undisturbed fun v => v.Framing o frame head read ∧ v.pin.btnClk = false :=
  framing_undisturbed.and (.pins fun p => p.btnClk = false)

/-- A falling clock shifts nothing (rule R71). -/
theorem Env.Framing.clockLow (h : v.Framing o frame head read) :
    (v.pinWritten .btnClk false).Framing o frame head read ∧ (v.pinWritten .btnClk false).pin.btnClk = false :=
  ⟨⟨by simpa using h.latched, h.captured, h.head, h.given⟩, by simp⟩

/-- A rising clock shifts once (rule R71). -/
theorem Env.Framing.clockHigh (h : v.Framing o frame head read) (low : v.pin.btnClk = false) (room : head < 40) :
    (v.pinWritten .btnClk true).Framing o frame (head + 1) read := by
  have rises : v.pinWritten .btnClk true =
      { v with pin := v.pin.drive .btnClk true, bhead := shiftedHead v.bhead } := by
    simp [Env.pinWritten, low, h.latched]
  rw [rises]
  exact ⟨by simpa using h.latched, h.captured, by simp [h.head]; omega, h.given⟩

/-- The sample the cascade gives is the bit it has been shifted to (rule R71). -/
theorem Env.Framing.sample (h : v.Framing o frame head head) (room : head < 40)
    (observed : v.observe (.r .btnData (o.btnDataAt head)) = some v') : v' = v ∧ v.Framing o frame head (head + 1) := by
  have presented : v.btnBit = frame[head] := by simp [Env.btnBit, h.latched, h.head, room, h.captured]
  simp only [Env.observe, presented, Option.ite_none_right_eq_some, Option.some.injEq] at observed
  obtain ⟨bit, rfl⟩ := observed
  refine ⟨rfl, h.latched, h.captured, h.head, fun n hn upTo => ?_⟩
  obtain earlier | rfl := Nat.lt_or_eq_of_le (Nat.le_of_lt_succ upTo)
  · exact h.given n hn earlier
  · exact bit

/-- One clock period of `ShiftIn` reads one bit of the frame (rules R56, R100). -/
theorem Env.framing_period (n : Nat) (room : n < 40) :
    Leads (Env.Framing o frame n n) [.w .btnClk false, .d 2, .r .btnData (o.btnDataAt n), .w .btnClk true]
      (Env.Framing o frame (n + 1) (n + 1)) :=
  .write framing_undisturbed Framing.clockLow <|
  .cons framing_low_undisturbed (fun h observed => Option.some.inj observed ▸ h) <|
  .cons framing_low_undisturbed (Q := fun v => v.Framing o frame n (n + 1) ∧ v.pin.btnClk = false)
    (fun ⟨h, low⟩ observed => by
      obtain ⟨rfl, read⟩ := h.sample room observed
      exact ⟨read, low⟩) <|
  .write framing_low_undisturbed (fun ⟨h, low⟩ => h.clockHigh low room) <|
  .nil framing_undisturbed

/-- The eight periods of a row read the row's eight bits of the frame. -/
theorem Env.framing_row (r : Row) :
    Leads (Env.Framing o frame (8 * (4 - r.val)) (8 * (4 - r.val))) (shiftInEvents (sampledRow o r))
      (Env.Framing o frame (8 * (4 - r.val) + 8) (8 * (4 - r.val) + 8)) := by
  refine .flatMap (I := fun k => Env.Framing o frame (8 * (4 - r.val) + k) (8 * (4 - r.val) + k)) bitOrder
    (fun _ => framing_undisturbed) fun k => ?_
  have bit : ∀ k : Fin bitOrder.length, bitOrder[k.val].val = k.val := by decide
  have small : k.val < 8 := k.isLt
  rw [bit, sampledRow, getLsbD_byteOf _ _ small]
  exact framing_period _ (by omega)

/-- The five rows of a scan read the whole frame, event words in between or not. -/
theorem Env.framing_rows {words : Row → List HistoryEvent} (only : ∀ r, OnlyWords (words r)) :
    Leads (Env.Framing o frame 0 0) (buttonRowOrder.flatMap fun r => shiftInEvents (sampledRow o r) ++ words r)
      (Env.Framing o frame 40 40) := by
  refine .flatMap (I := fun k => Env.Framing o frame (8 * k) (8 * k)) buttonRowOrder (fun _ => framing_undisturbed) fun k => ?_
  have row : ∀ k : Fin buttonRowOrder.length, 4 - buttonRowOrder[k.val].val = k.val := by decide
  have read := framing_row (o := o) (frame := frame) buttonRowOrder[k.val]
  rw [row] at read
  exact read.append ((only _).leads framing_undisturbed)

end

/-- Asserting the latch captures the buttons as they are held (rule R71). -/
theorem Env.framing_of_latch (o : Oracle) (v : Env) :
    (v.pinWritten .btnLatch v.shiftLevel).Framing o (capturedFrame v.physBtn) 0 0 := by
  have captures : v.pinWritten .btnLatch v.shiftLevel =
      { v with pin := v.pin.drive .btnLatch v.shiftLevel, bq := capturedFrame v.physBtn, bhead := 0 } := by
    simp [Env.pinWritten]
  rw [captures]
  exact ⟨rfl, rfl, rfl, fun _ _ none => absurd none (Nat.not_lt_zero _)⟩

/-- The event words among the samples of a row. -/
def rowWords (s : State) (now : Millis) (notify : Bool) (r : Row) : List HistoryEvent :=
  if notify then edgeEvents s (sampledRows s.oracle) now r else []

theorem rowWords_onlyWords (s : State) (now : Millis) (notify : Bool) (r : Row) : OnlyWords (rowWords s now notify r) := by
  cases notify with
  | true => exact edgeEvents_onlyWords _ _ _ _
  | false => exact fun _ mem => nomatch mem

/-- The part of a scan in which the frame is shifted in. -/
def frameEvents (s : State) (now : Millis) (notify : Bool) : List HistoryEvent :=
  buttonRowOrder.flatMap fun r => shiftInEvents (sampledRow s.oracle r) ++ rowWords s now notify r

theorem scanEvents_eq (s : State) (now : Millis) (notify : Bool) :
    scanEvents s now notify = .w .btnLatch s.shiftLevel :: frameEvents s now notify ++ [.w .btnLatch (!s.shiftLevel)] := rfl

theorem drivenLevels_frameEvents (s : State) (now : Millis) (notify : Bool) :
    drivenLevels .btnLatch (frameEvents s now notify) = [] := by
  simp [frameEvents, shiftInEvents, (rowWords_onlyWords s now notify _).drivenLevels]

theorem drivenLevels_potPassEvents (s : State) : drivenLevels .btnLatch (potPassEvents s) = [] := by
  simp [potPassEvents, selectEvents, (potEvents_onlyWords s _ _).drivenLevels]

theorem mem_drivenLevels {p : Pin} {b : Bool} {hs : List HistoryEvent} (mem : .w p b ∈ hs) : b ∈ drivenLevels p hs :=
  List.mem_filterMap.2 ⟨_, mem, by simp⟩

/-- A timeline cut at the second of GSIO's events, when that event does not come again. -/
theorem gsioPart_cut_at_second {before after : List WorldEvent} {h₁ h : HistoryEvent} {hs : List HistoryEvent}
    (shown : gsioPart (before ++ .seen h :: after) = seenEvents (h₁ :: h :: hs)) (other : h ≠ h₁) (once : h ∉ hs) :
    gsioPart after = seenEvents hs := by
  have cut : gsioPart before ++ .seen h :: gsioPart after = .seen h₁ :: .seen h :: seenEvents hs := by
    simpa [gsioPart, List.filter_cons, WorldEvent.ofGsio] using shown
  match earlier : gsioPart before with
  | [] =>
    rw [earlier] at cut
    exact absurd (WorldEvent.seen.inj (List.cons.inj cut).1) other
  | [_] =>
    rw [earlier] at cut
    exact (List.cons.inj (List.cons.inj cut).2).2
  | _ :: _ :: later =>
    rw [earlier] at cut
    obtain ⟨-, tail⟩ := List.cons.inj cut
    obtain ⟨-, tail⟩ := List.cons.inj tail
    have again : WorldEvent.seen h ∈ seenEvents hs := tail ▸ List.mem_append_right later List.mem_cons_self
    exact absurd (by simpa [seenEvents] using again) once

/-- A scan asserts the latch once. -/
theorem latch_notMem (s : State) (now : Millis) (notify : Bool) {rest : List HistoryEvent} (quiet : drivenLevels .btnLatch rest = []) :
    .w .btnLatch s.shiftLevel ∉ frameEvents s now notify ++ .w .btnLatch (!s.shiftLevel) :: rest := by
  intro mem
  simpa [drivenLevels_frameEvents, quiet] using mem_drivenLevels mem

/-- The samples that follow the latch are the frame it captured, whatever comes after them. -/
theorem Env.samples_of_latch {m v' : Env} {s : State} {now : Millis} {notify : Bool} {after : List WorldEvent}
    {rest : List HistoryEvent} (followed : m.follow (.seen (.w .btnLatch m.shiftLevel) :: after) = some v')
    (shown : gsioPart after = seenEvents (frameEvents s now notify ++ rest)) (n : Nat) (h : n < 40) :
    s.oracle.btnDataAt n = (capturedFrame m.physBtn)[n] := by
  obtain ⟨scanning, later, rfl, scanning_shown, -⟩ := gsioPart_eq_append shown
  rw [Env.follow_cons] at followed
  obtain ⟨latched, observed, followed⟩ := Option.bind_eq_some_iff.1 followed
  rw [Env.follow_append] at followed
  obtain ⟨scanned, reached, -⟩ := Option.bind_eq_some_iff.1 followed
  cases observed
  have whole : scanned.Framing s.oracle (capturedFrame m.physBtn) 40 40 :=
    framing_rows (rowWords_onlyWords s now notify) _ _ scanning (framing_of_latch s.oracle m) scanning_shown reached
  exact whole.given n h h

/-- Settles O54: the latch captures the frame, and its 40 bits are the samples; after that nothing the world does matters. -/
theorem scanReadsHeldButtons : Obligations.ScanReadsHeldButtons := by
  intro v m v' s t i before after level scans answered shown reached followed r c
  obtain ⟨t', notify, rest, answer, rows, grown, tail⟩ := exec_of_scans scans
  cases answered.symm.trans answer
  have quiet : drivenLevels .btnLatch rest = [] := by
    obtain rfl | rfl := tail
    · rfl
    · exact drivenLevels_potPassEvents _
  have events : newEvents s t = .t (s.oracle.nowAt 0) :: .w .btnLatch s.shiftLevel ::
      (frameEvents s (s.oracle.nowAt 0) notify ++ .w .btnLatch (!s.shiftLevel) :: rest) := by
    simp [newEvents, grown, scanEvents_eq]
  rw [events] at shown
  have after_shown := gsioPart_cut_at_second shown (by simp) (latch_notMem s _ notify quiet)
  rw [← level, ← (Env.follow_pins reached).1] at followed
  have small : 8 * (4 - r.val) + c.val < 40 := by omega
  have cell : 4 - (8 * (4 - r.val) + c.val) / 8 = r.val ∧ (8 * (4 - r.val) + c.val) % 8 = c.val := by omega
  calc t.btnCur[r.val].getLsbD c.val = s.oracle.btnDataAt (8 * (4 - r.val) + c.val) := by rw [rows, sampledRows_getLsbD]
    _ = (capturedFrame m.physBtn)[8 * (4 - r.val) + c.val] := Env.samples_of_latch followed after_shown _ small
    _ = m.physBtn[r.val][c.val] := by simp [cell]

/-! ## The LED cascade -/

/-- With its latch low, the cascade ends with the first `sent` bits of a frame. -/
structure Env.Filling (frame : Vector Bool 40) (sent : Nat) (v : Env) : Prop where
  latch : v.pin.ledLatch = false
  shifted : ∀ n (h : n < 40) (hs : n < sent), v.lsr[40 - sent + n] = frame[n]

section
variable {frame : Vector Bool 40} {sent : Nat} {v : Env}

theorem Env.filling_undisturbed : Undisturbed (Env.Filling frame sent) :=
  .of_devices fun _ pin _ _ bits h => ⟨by rw [pin, h.latch], fun n hn hs => by simpa only [bits] using h.shifted n hn hs⟩

theorem Env.filling_pins_undisturbed (P : Pins → Prop) : Undisturbed fun v => v.Filling frame sent ∧ P v.pin :=
  filling_undisturbed.and (.pins P)

/-- The data line shifts nothing (rule R72). -/
theorem Env.Filling.data (h : v.Filling frame sent) (b : Bool) : (v.pinWritten .ledData b).Filling frame sent :=
  ⟨by simpa using h.latch, h.shifted⟩

/-- A falling clock shifts nothing (rule R72). -/
theorem Env.Filling.clockLow (h : v.Filling frame sent) : (v.pinWritten .ledClk false).Filling frame sent :=
  ⟨by simpa using h.latch, by simpa [Env.pinWritten] using h.shifted⟩

/-- A rising clock takes in the bit on the data line and moves the others up (rule R72). -/
theorem Env.Filling.clockHigh (h : v.Filling frame sent) (low : v.pin.ledClk = false) (room : sent < 40)
    (data : v.pin.ledData = frame[sent]) : (v.pinWritten .ledClk true).Filling frame (sent + 1) := by
  have shifts : (v.pinWritten .ledClk true).lsr = shiftedBits v.lsr frame[sent] := by simp [Env.pinWritten, low, data]
  refine ⟨by simpa using h.latch, fun n hn upTo => ?_⟩
  simp only [shifts, shiftedBits_getElem]
  obtain earlier | rfl := Nat.lt_or_eq_of_le (Nat.le_of_lt_succ upTo)
  · have place : 40 - (sent + 1) + n + 1 = 40 - sent + n := by omega
    rw [dif_pos (by omega)]
    simpa only [place] using h.shifted n hn earlier
  · rw [dif_neg (by omega)]

/-- One clock period of `ShiftOut` sends one bit of the frame (rules R57, R103). -/
theorem Env.filling_period (room : sent < 40) :
    Leads (fun v => v.Filling frame sent ∧ v.pin.ledClk = false)
      [.w .ledData frame[sent], .w .ledClk true, .w .ledClk false]
      (fun v => v.Filling frame (sent + 1) ∧ v.pin.ledClk = false) :=
  .write (filling_pins_undisturbed fun p => p.ledClk = false)
    (Q := fun v => v.Filling frame sent ∧ v.pin.ledClk = false ∧ v.pin.ledData = frame[sent])
    (fun ⟨h, low⟩ => ⟨h.data _, by simpa using low⟩) <|
  .write (filling_pins_undisturbed fun p => p.ledClk = false ∧ p.ledData = frame[sent])
    (fun ⟨h, low, data⟩ => h.clockHigh low room data) <|
  .write filling_undisturbed (fun h => ⟨h.clockLow, by simp⟩) <|
  .nil (filling_pins_undisturbed fun p => p.ledClk = false)

end

/-- The forty bits of an LED write in the order they are sent (rule R57). -/
def sentFrame (s : State) : Vector Bool 40 :=
  Vector.ofFn fun n : Fin 40 => (shownByte s ⟨n.val / 8, by omega⟩).getLsbD (n.val % 8)

theorem sentFrame_getElem (s : State) (r : Row) (i : Fin 8) (h : 8 * r.val + i.val < 40) :
    (sentFrame s)[8 * r.val + i.val] = (shownByte s r).getLsbD i.val := by
  have place : (8 * r.val + i.val) / 8 = r.val ∧ (8 * r.val + i.val) % 8 = i.val := by omega
  simp [sentFrame, place]

/-- The eight periods of a row send the row's eight bits of the frame. -/
theorem Env.filling_row (s : State) (r : Row) :
    Leads (fun v => v.Filling (sentFrame s) (8 * r.val) ∧ v.pin.ledClk = false) (shiftOutEvents .lsbFirst (shownByte s r))
      (fun v => v.Filling (sentFrame s) (8 * r.val + 8) ∧ v.pin.ledClk = false) := by
  refine .flatMap (I := fun k v => v.Filling (sentFrame s) (8 * r.val + k) ∧ v.pin.ledClk = false) bitOrder
    (fun _ => filling_pins_undisturbed fun p => p.ledClk = false) fun k => ?_
  have bit : ∀ k : Fin bitOrder.length, bitOrder[k.val].val = k.val := by decide
  have small : k.val < 8 := k.isLt
  rw [outBit, bit, ← sentFrame_getElem s r ⟨k.val, small⟩ (by omega)]
  exact filling_period (by omega)

/-- The five rows of an LED write send the whole frame. -/
theorem Env.filling_rows (s : State) :
    Leads (fun v => v.Filling (sentFrame s) 0 ∧ v.pin.ledClk = false)
      (ledRowOrder.flatMap fun r => shiftOutEvents .lsbFirst (shownByte s r))
      (fun v => v.Filling (sentFrame s) 40 ∧ v.pin.ledClk = false) := by
  refine .flatMap (I := fun k v => v.Filling (sentFrame s) (8 * k) ∧ v.pin.ledClk = false) ledRowOrder
    (fun _ => filling_pins_undisturbed fun p => p.ledClk = false) fun k => ?_
  have row : ∀ k : Fin ledRowOrder.length, ledRowOrder[k.val].val = k.val := by decide
  have sent := filling_row s ledRowOrder[k.val]
  rw [row] at sent
  exact sent

/-- A low latch keeps what the LEDs show; nothing of the frame has been sent. -/
theorem Env.filling_of_latchLow (frame : Vector Bool 40) {v : Env} (low : v.pin.ledClk = false) :
    (v.pinWritten .ledLatch false).Filling frame 0 ∧ (v.pinWritten .ledLatch false).pin.ledClk = false :=
  ⟨⟨by simp, fun _ _ none => absurd none (Nat.not_lt_zero _)⟩, by simpa using low⟩

/-- The rising latch shows the whole frame (rule R72). -/
theorem Env.Filling.latchHigh {frame : Vector Bool 40} {v : Env} (h : v.Filling frame 40) :
    (v.pinWritten .ledLatch true).lout = shownLeds frame := by
  have whole : v.lsr = frame := by
    ext n hn
    simpa using h.shifted n hn hn
  simp [Env.pinWritten, h.latch, whole]

theorem Undisturbed.lout (P : Vector (Vector Bool 8) 5 → Prop) : Undisturbed fun v => P v.lout := by
  intro v v' e world reacted
  obtain ⟨_, answer, -, -, -, -, -, shown⟩ := v.react_world world
  cases answer.symm.trans reacted
  exact fun (h : P _) => show P _ from shown ▸ h

/-- An LED write shows the frame it sends, if the clock is low before it. -/
theorem Env.ledWrite_leads (s : State) :
    Leads (fun v => v.pin.ledClk = false) (ledWriteEvents s) (fun v => v.lout = shownLeds (sentFrame s)) :=
  .write (.pins fun p => p.ledClk = false) (filling_of_latchLow (sentFrame s)) <|
  (filling_rows s).append <|
  .write (filling_pins_undisturbed fun p => p.ledClk = false) (fun ⟨h, _⟩ => h.latchHigh) <|
  .nil (.lout fun lout => lout = shownLeds (sentFrame s))

theorem ledWriteEvents_writes (s : State) : ∀ h ∈ ledWriteEvents s, ∃ p b, h = .w p b := by
  intro h mem
  simp only [ledWriteEvents, shiftOutEvents, List.cons_append, List.mem_cons, List.mem_append, List.mem_flatMap, List.not_mem_nil,
    or_false] at mem
  obtain rfl | ⟨_, -, _, -, rfl | rfl | rfl⟩ | rfl := mem <;> exact ⟨_, _, rfl⟩

/-- The environment refuses samples only: a timeline in which GSIO but writes pins is always followed. -/
theorem Env.exists_follow {hs : List HistoryEvent} {timeline : List WorldEvent} (shown : gsioPart timeline = seenEvents hs)
    (writes : ∀ h ∈ hs, ∃ p b, h = .w p b) (v : Env) : ∃ v', v.follow timeline = some v' := by
  have written : ∀ e ∈ gsioPart timeline, ∃ p b, e = .seen (.w p b) := by
    rw [shown]
    intro e mem
    obtain ⟨h, written, rfl⟩ := List.mem_map.1 mem
    obtain ⟨p, b, rfl⟩ := writes h written
    exact ⟨p, b, rfl⟩
  clear shown
  induction timeline generalizing v with
  | nil => exact ⟨v, rfl⟩
  | cons e rest ih =>
    have reacts : ∃ m, v.react e = some m := by
      cases gsio : e.ofGsio with
      | false => obtain ⟨m, reacted, -⟩ := v.react_world gsio; exact ⟨m, reacted⟩
      | true =>
        obtain ⟨p, b, rfl⟩ := written e (List.mem_filter.2 ⟨List.mem_cons_self, gsio⟩)
        exact ⟨_, rfl⟩
    obtain ⟨m, reacted⟩ := reacts
    obtain ⟨v', followed⟩ := ih m fun e' mem => written e' (by
      obtain ⟨mem, gsio⟩ := List.mem_filter.1 mem
      exact List.mem_filter.2 ⟨List.mem_cons_of_mem e mem, gsio⟩)
    exact ⟨v', by rw [Env.follow_cons, reacted]; exact followed⟩

/-- Settles O55: the frame fills the cascade, and the rising latch shows it. -/
theorem ledWriteShowsMatrix : Obligations.LedWriteShowsMatrix := by
  intro v s i low write
  obtain ⟨t, answered, events⟩ := exec_of_ledWrite s write
  refine ⟨t, answered, fun timeline shown => ?_⟩
  rw [events] at shown
  obtain ⟨v', followed⟩ := Env.exists_follow shown (ledWriteEvents_writes s) v
  refine ⟨v', followed, fun r c => ?_⟩
  have leds : v'.lout = shownLeds (sentFrame s) := Env.ledWrite_leads s v v' timeline low shown followed
  calc v'.lout[r.val][c.val] = (sentFrame s)[8 * r.val + (7 - c.val)] := by rw [leds, shownLeds_getElem]
    _ = (shownByte s r).getLsbD (7 - c.val) := sentFrame_getElem s r ⟨7 - c.val, by omega⟩ (by simp only []; omega)
    _ = (s.frame.toNat % 2 == 0 && s.led[r.val].getLsbD (7 - c.val)) := shownByte_getLsbD s r _

end Sys2Proof.Machine
end

section
/-! PROOFS for spec/30_encoding.md. What a mask keeps of a word and what the fields of an encoded word are; from that, the decoder
row by row of the opcode map (rule R84), and that decoder and encoder are inverse to each other. -/

namespace Sys2Proof.Machine

/-! ## The bits a mask keeps -/

/-- Where the mask is all ones, the word has the bits of the row's pattern (rule R84). -/
theorem extractLsb'_of_masked {n : Nat} {w mask pattern : BitVec n} (h : w &&& mask = pattern) (start len : Nat)
    (kept : mask.extractLsb' start len = BitVec.allOnes len) : w.extractLsb' start len = pattern.extractLsb' start len := by
  rw [← h, BitVec.extractLsb'_and, kept, BitVec.and_allOnes]

theorem getLsbD_of_masked {n : Nat} {w mask pattern : BitVec n} (h : w &&& mask = pattern) (i : Nat)
    (kept : mask.getLsbD i = true) : w.getLsbD i = pattern.getLsbD i := by
  rw [← h, BitVec.getLsbD_and, kept, Bool.and_true]

/-- Format N has no operand: its mask keeps the whole word (rule R82). -/
theorem decode_of_fullMask {w pattern : CmdWord} (h : w &&& 0xFFFF = pattern) : decode w = decode pattern := by
  rw [← h, show (0xFFFF : CmdWord) = BitVec.allOnes 16 by decide, BitVec.and_allOnes]

/-! ## The decoder, row by row of the opcode map -/

theorem ifReservedZero_eq_ok {zero : Bool} {c i : Instr} : ifReservedZero zero c = .ok i ↔ zero = true ∧ c = i := by
  cases zero <;> simp [ifReservedZero]

section

variable {w : CmdWord}

theorem decode_of_shout_row (h : w &&& 0xFE00 = 0x8000) : decode w = .ok (.shout (orderField w) (valueField w)) := by
  have op : opcodeOf w = 0x8 := extractLsb'_of_masked h 12 4 (by decide)
  have zero : w.extractLsb' 9 3 = 0 := extractLsb'_of_masked h 9 3 (by decide)
  simp only [decode, op, zero]
  rfl

theorem decode_of_setled_row (h : w &&& 0xF88E = 0x9000) :
    decode w = .ok (.setled (rowField w) (colField w) (bit0Field w)) := by
  have op : opcodeOf w = 0x9 := extractLsb'_of_masked h 12 4 (by decide)
  have zero11 : w.getLsbD 11 = false := getLsbD_of_masked h 11 (by decide)
  have zero7 : w.getLsbD 7 = false := getLsbD_of_masked h 7 (by decide)
  have zero : w.extractLsb' 1 3 = 0 := extractLsb'_of_masked h 1 3 (by decide)
  simp only [decode, op, zero11, zero7, zero]
  rfl

theorem decode_of_setrow_row (h : w &&& 0xF800 = 0xA000) : decode w = .ok (.setrow (rowField w) (valueField w)) := by
  have op : opcodeOf w = 0xA := extractLsb'_of_masked h 12 4 (by decide)
  have zero11 : w.getLsbD 11 = false := getLsbD_of_masked h 11 (by decide)
  simp only [decode, op, zero11]
  rfl

theorem decode_of_getbtn_row (h : w &&& 0xF88F = 0xB000) : decode w = .ok (.getbtn (rowField w) (colField w)) := by
  have op : opcodeOf w = 0xB := extractLsb'_of_masked h 12 4 (by decide)
  have zero11 : w.getLsbD 11 = false := getLsbD_of_masked h 11 (by decide)
  have zero7 : w.getLsbD 7 = false := getLsbD_of_masked h 7 (by decide)
  have zero : w.extractLsb' 0 4 = 0 := extractLsb'_of_masked h 0 4 (by decide)
  simp only [decode, op, zero11, zero7, zero]
  rfl

theorem decode_of_listen_row (h : w &&& 0xFCFE = 0xC000) : decode w = .ok (.listen (slotField w) (bit0Field w)) := by
  have op : opcodeOf w = 0xC := extractLsb'_of_masked h 12 4 (by decide)
  have zero10 : w.extractLsb' 10 2 = 0 := extractLsb'_of_masked h 10 2 (by decide)
  have zero1 : w.extractLsb' 1 7 = 0 := extractLsb'_of_masked h 1 7 (by decide)
  simp only [decode, op, zero10, zero1]
  rfl

theorem decode_of_getcfg_row (h : w &&& 0xFCFF = 0xD000) : decode w = .ok (.getcfg (slotField w)) := by
  have op : opcodeOf w = 0xD := extractLsb'_of_masked h 12 4 (by decide)
  have zero10 : w.extractLsb' 10 2 = 0 := extractLsb'_of_masked h 10 2 (by decide)
  have zero0 : w.extractLsb' 0 8 = 0 := extractLsb'_of_masked h 0 8 (by decide)
  simp only [decode, op, zero10, zero0]
  rfl

/-- A word that a row of the opcode map accepts decodes to a command of that row (rule R84). -/
theorem decode_of_row {row : OpcodeRow} (mem : row ∈ opcodeMap) (h : w &&& row.mask = row.pattern) :
    ∃ i, decode w = .ok i ∧ i.mnemonic = row.mnemonic := by
  simp only [opcodeMap, List.mem_cons, List.not_mem_nil, or_false] at mem
  obtain rfl | rfl | rfl | rfl | rfl | rfl | rfl | rfl | rfl | rfl | rfl | rfl | rfl := mem
  · exact ⟨.init, decode_of_fullMask h, rfl⟩
  · exact ⟨.read, decode_of_fullMask h, rfl⟩
  · exact ⟨.write, decode_of_fullMask h, rfl⟩
  · exact ⟨.rdbtn, decode_of_fullMask h, rfl⟩
  · exact ⟨.rdpot, decode_of_fullMask h, rfl⟩
  · exact ⟨.wrled, decode_of_fullMask h, rfl⟩
  · exact ⟨.shin, decode_of_fullMask h, rfl⟩
  · exact ⟨_, decode_of_shout_row h, rfl⟩
  · exact ⟨_, decode_of_setled_row h, rfl⟩
  · exact ⟨_, decode_of_setrow_row h, rfl⟩
  · exact ⟨_, decode_of_getbtn_row h, rfl⟩
  · exact ⟨_, decode_of_listen_row h, rfl⟩
  · exact ⟨_, decode_of_getcfg_row h, rfl⟩

end

/-! ## The encoded word of each command -/

/-- One row of the opcode map bears the command's mnemonic, and it accepts the command's word. -/
theorem encode_acceptedByRow (i : Instr) : Laws.AcceptedByRow.Statement i := by
  cases i with
  | init => exact Laws.AcceptedByRow.init
  | read => exact Laws.AcceptedByRow.read
  | write => exact Laws.AcceptedByRow.write
  | rdbtn => exact Laws.AcceptedByRow.rdbtn
  | rdpot => exact Laws.AcceptedByRow.rdpot
  | wrled => exact Laws.AcceptedByRow.wrled
  | shin => exact Laws.AcceptedByRow.shin
  | shout order value => exact Laws.AcceptedByRow.shout order value
  | setled row col val => exact Laws.AcceptedByRow.setled row col val
  | setrow row value => exact Laws.AcceptedByRow.setrow row value
  | getbtn row col => exact Laws.AcceptedByRow.getbtn row col
  | listen slot en => exact Laws.AcceptedByRow.listen slot en
  | getcfg k => exact Laws.AcceptedByRow.getcfg k

theorem encode_masked {i : Instr} {pattern mask : CmdWord} (mem : ⟨i.mnemonic, pattern, mask⟩ ∈ opcodeMap) :
    encode i &&& mask = pattern := by
  obtain ⟨-, accepted⟩ := encode_acceptedByRow i
  exact eq_of_beq (accepted _ mem rfl)

theorem exists_row (i : Instr) : ∃ row ∈ opcodeMap, row.mnemonic = i.mnemonic := by
  obtain ⟨single, -⟩ := encode_acceptedByRow i
  obtain ⟨row, mem⟩ := List.exists_mem_of_length_pos (single ▸ Nat.one_pos)
  obtain ⟨mem, named⟩ := List.mem_filter.1 mem
  exact ⟨row, mem, eq_of_beq named⟩

/-! The fields of an encoded word, found by walking down its concatenation (rule R83). The widths stay sums (`-Nat.reduceAdd`): that
is the form in which the library reads a concatenation. -/

theorem fields_shout (order : BitOrder) (value : Byte) :
    orderField (encode (.shout order value)) = order ∧ valueField (encode (.shout order value)) = value := by
  constructor
  · cases order <;> simp [-Nat.reduceAdd, -BitVec.getLsbD_eq_getElem, orderField, encode, orderBit, BitVec.getLsbD_append]
  · exact BitVec.extractLsb'_append_eq_right

theorem fields_setled (row col : BitVec 3) (val : Bool) :
    rowField (encode (.setled row col val)) = row ∧ colField (encode (.setled row col val)) = col ∧
      bit0Field (encode (.setled row col val)) = val := by
  simp [-Nat.reduceAdd, -BitVec.getLsbD_eq_getElem, rowField, colField, bit0Field, encode, BitVec.extractLsb'_append_eq_of_le,
    BitVec.extractLsb'_append_eq_of_add_le, BitVec.getLsbD_append]

theorem fields_setrow (row : BitVec 3) (value : Byte) :
    rowField (encode (.setrow row value)) = row ∧ valueField (encode (.setrow row value)) = value := by
  simp [-Nat.reduceAdd, rowField, valueField, encode, BitVec.extractLsb'_append_eq_of_le, BitVec.extractLsb'_append_eq_of_add_le]

theorem fields_getbtn (row col : BitVec 3) :
    rowField (encode (.getbtn row col)) = row ∧ colField (encode (.getbtn row col)) = col := by
  simp [-Nat.reduceAdd, rowField, colField, encode, BitVec.extractLsb'_append_eq_of_le, BitVec.extractLsb'_append_eq_of_add_le]

theorem fields_listen (slot : BitVec 2) (en : Bool) :
    slotField (encode (.listen slot en)) = slot ∧ bit0Field (encode (.listen slot en)) = en := by
  simp [-Nat.reduceAdd, -BitVec.getLsbD_eq_getElem, slotField, bit0Field, encode, BitVec.extractLsb'_append_eq_of_le,
    BitVec.extractLsb'_append_eq_of_add_le, BitVec.getLsbD_append]

theorem fields_getcfg (k : BitVec 2) : slotField (encode (.getcfg k)) = k := by
  simp [-Nat.reduceAdd, slotField, encode, BitVec.extractLsb'_append_eq_of_le, BitVec.extractLsb'_append_eq_of_add_le]

/-- Settles O1: the command's row accepts its word, and the decoder reads there the fields the encoder wrote. -/
theorem decodeOfEncode : Obligations.DecodeOfEncode := by
  intro i
  cases i with
  | init => rfl
  | read => rfl
  | write => rfl
  | rdbtn => rfl
  | rdpot => rfl
  | wrled => rfl
  | shin => rfl
  | shout order value =>
    obtain ⟨readOrder, readValue⟩ := fields_shout order value
    rw [decode_of_shout_row (encode_masked (by simp [opcodeMap, Instr.mnemonic])), readOrder, readValue]
  | setled row col val =>
    obtain ⟨readRow, readCol, readVal⟩ := fields_setled row col val
    rw [decode_of_setled_row (encode_masked (by simp [opcodeMap, Instr.mnemonic])), readRow, readCol, readVal]
  | setrow row value =>
    obtain ⟨readRow, readValue⟩ := fields_setrow row value
    rw [decode_of_setrow_row (encode_masked (by simp [opcodeMap, Instr.mnemonic])), readRow, readValue]
  | getbtn row col =>
    obtain ⟨readRow, readCol⟩ := fields_getbtn row col
    rw [decode_of_getbtn_row (encode_masked (by simp [opcodeMap, Instr.mnemonic])), readRow, readCol]
  | listen slot en =>
    obtain ⟨readSlot, readEn⟩ := fields_listen slot en
    rw [decode_of_listen_row (encode_masked (by simp [opcodeMap, Instr.mnemonic])), readSlot, readEn]
  | getcfg k => rw [decode_of_getcfg_row (encode_masked (by simp [opcodeMap, Instr.mnemonic])), fields_getcfg]

/-! ## A word is made of its fields -/

theorem ofBool_getLsbD (w : CmdWord) (i : Nat) : BitVec.ofBool (w.getLsbD i) = w.extractLsb' i 1 := by
  rw [BitVec.getLsbD_eq_extractLsb']
  obtain zero | one := BitVec.eq_zero_or_eq_one (w.extractLsb' i 1)
  · rw [zero]; rfl
  · rw [one]; rfl

theorem extractLsb'_one_of_not {w : CmdWord} {i : Nat} (h : (!w.getLsbD i) = true) : w.extractLsb' i 1 = 0#1 := by
  rw [← ofBool_getLsbD, Bool.eq_false_of_not_eq_true' h]; rfl

theorem ofBool_orderBit_orderField (w : CmdWord) : BitVec.ofBool (orderBit (orderField w)) = w.extractLsb' 8 1 := by
  rw [← ofBool_getLsbD, orderField]
  cases w.getLsbD 8 <;> rfl

/-! Each format of rule R82 on a word with the opcode and the zeros that the decoder asks for: the fields stand side by side. -/

section

variable {w : CmdWord}

/-- Format N, the seven commands without an operand. -/
theorem opcode_append_zero {op : BitVec 4} (hop : opcodeOf w = op) (zero : (w.extractLsb' 0 12 == 0) = true) : op ++ 0#12 = w := by
  calc op ++ 0#12 = opcodeOf w ++ w.extractLsb' 0 12 := by rw [hop, eq_of_beq zero]; rfl
    _ = w := (BitVec.extractLsb'_append_extractLsb'_eq_extractLsb' rfl).trans BitVec.extractLsb'_eq_self

theorem encode_shout_fields (op : opcodeOf w = 0x8) (zero : (w.extractLsb' 9 3 == 0) = true) :
    encode (.shout (orderField w) (valueField w)) = w := by
  calc encode (.shout (orderField w) (valueField w))
      = opcodeOf w ++ w.extractLsb' 9 3 ++ w.extractLsb' 8 1 ++ valueField w := by
        rw [op, eq_of_beq zero, ← ofBool_orderBit_orderField]; rfl
    _ = w := by
        simp (disch := rfl) only [-Nat.reduceAdd, opcodeOf, valueField, BitVec.extractLsb'_append_extractLsb'_eq_extractLsb']
        exact BitVec.extractLsb'_eq_self

theorem encode_setled_fields (op : opcodeOf w = 0x9) (zero : (!w.getLsbD 11 && !w.getLsbD 7 && w.extractLsb' 1 3 == 0) = true) :
    encode (.setled (rowField w) (colField w) (bit0Field w)) = w := by
  simp only [Bool.and_eq_true] at zero
  obtain ⟨⟨zero11, zero7⟩, zero1⟩ := zero
  calc encode (.setled (rowField w) (colField w) (bit0Field w))
      = opcodeOf w ++ w.extractLsb' 11 1 ++ rowField w ++ w.extractLsb' 7 1 ++ colField w ++ w.extractLsb' 1 3 ++
          w.extractLsb' 0 1 := by
        rw [op, extractLsb'_one_of_not zero11, extractLsb'_one_of_not zero7, eq_of_beq zero1, ← ofBool_getLsbD]; rfl
    _ = w := by
        simp (disch := rfl) only [-Nat.reduceAdd, opcodeOf, rowField, colField,
          BitVec.extractLsb'_append_extractLsb'_eq_extractLsb']
        exact BitVec.extractLsb'_eq_self

theorem encode_setrow_fields (op : opcodeOf w = 0xA) (zero : (!w.getLsbD 11) = true) :
    encode (.setrow (rowField w) (valueField w)) = w := by
  calc encode (.setrow (rowField w) (valueField w))
      = opcodeOf w ++ w.extractLsb' 11 1 ++ rowField w ++ valueField w := by
        rw [op, extractLsb'_one_of_not zero]; rfl
    _ = w := by
        simp (disch := rfl) only [-Nat.reduceAdd, opcodeOf, rowField, valueField,
          BitVec.extractLsb'_append_extractLsb'_eq_extractLsb']
        exact BitVec.extractLsb'_eq_self

theorem encode_getbtn_fields (op : opcodeOf w = 0xB) (zero : (!w.getLsbD 11 && !w.getLsbD 7 && w.extractLsb' 0 4 == 0) = true) :
    encode (.getbtn (rowField w) (colField w)) = w := by
  simp only [Bool.and_eq_true] at zero
  obtain ⟨⟨zero11, zero7⟩, zero0⟩ := zero
  calc encode (.getbtn (rowField w) (colField w))
      = opcodeOf w ++ w.extractLsb' 11 1 ++ rowField w ++ w.extractLsb' 7 1 ++ colField w ++ w.extractLsb' 0 4 := by
        rw [op, extractLsb'_one_of_not zero11, extractLsb'_one_of_not zero7, eq_of_beq zero0]; rfl
    _ = w := by
        simp (disch := rfl) only [-Nat.reduceAdd, opcodeOf, rowField, colField,
          BitVec.extractLsb'_append_extractLsb'_eq_extractLsb']
        exact BitVec.extractLsb'_eq_self

theorem encode_listen_fields (op : opcodeOf w = 0xC) (zero : (w.extractLsb' 10 2 == 0 && w.extractLsb' 1 7 == 0) = true) :
    encode (.listen (slotField w) (bit0Field w)) = w := by
  simp only [Bool.and_eq_true] at zero
  obtain ⟨zero10, zero1⟩ := zero
  calc encode (.listen (slotField w) (bit0Field w))
      = opcodeOf w ++ w.extractLsb' 10 2 ++ slotField w ++ w.extractLsb' 1 7 ++ w.extractLsb' 0 1 := by
        rw [op, eq_of_beq zero10, eq_of_beq zero1, ← ofBool_getLsbD]; rfl
    _ = w := by
        simp (disch := rfl) only [-Nat.reduceAdd, opcodeOf, slotField, BitVec.extractLsb'_append_extractLsb'_eq_extractLsb']
        exact BitVec.extractLsb'_eq_self

theorem encode_getcfg_fields (op : opcodeOf w = 0xD) (zero : (w.extractLsb' 10 2 == 0 && w.extractLsb' 0 8 == 0) = true) :
    encode (.getcfg (slotField w)) = w := by
  simp only [Bool.and_eq_true] at zero
  obtain ⟨zero10, zero0⟩ := zero
  calc encode (.getcfg (slotField w))
      = opcodeOf w ++ w.extractLsb' 10 2 ++ slotField w ++ w.extractLsb' 0 8 := by
        rw [op, eq_of_beq zero10, eq_of_beq zero0]; rfl
    _ = w := by
        simp (disch := rfl) only [-Nat.reduceAdd, opcodeOf, slotField, BitVec.extractLsb'_append_extractLsb'_eq_extractLsb']
        exact BitVec.extractLsb'_eq_self

end

/-- Settles O2, by the branch of the decoder that read the word. -/
theorem encodeOfDecode : Obligations.EncodeOfDecode := by
  intro w i read
  unfold decode at read
  split at read
  case h_14 => cases read
  all_goals
    rename_i op
    obtain ⟨zero, rfl⟩ := ifReservedZero_eq_ok.1 read
  case h_8 => exact encode_shout_fields (BitVec.eq_of_toNat_eq op) zero
  case h_9 => exact encode_setled_fields (BitVec.eq_of_toNat_eq op) zero
  case h_10 => exact encode_setrow_fields (BitVec.eq_of_toNat_eq op) zero
  case h_11 => exact encode_getbtn_fields (BitVec.eq_of_toNat_eq op) zero
  case h_12 => exact encode_listen_fields (BitVec.eq_of_toNat_eq op) zero
  case h_13 => exact encode_getcfg_fields (BitVec.eq_of_toNat_eq op) zero
  all_goals exact opcode_append_zero (BitVec.eq_of_toNat_eq op) zero

/-- The decoder reads a command from its own word and from no other (rule R82). -/
theorem decode_eq_ok_iff {w : CmdWord} {i : Instr} : decode w = .ok i ↔ encode i = w :=
  ⟨encodeOfDecode w i, fun h => h ▸ decodeOfEncode i⟩

/-- Settles O3: every row's words decode to its commands, and a command's word is accepted by its row. -/
theorem opcodeMapDecides : Obligations.OpcodeMapDecides := by
  intro w m
  constructor
  · rintro ⟨i, read, rfl⟩
    obtain ⟨row, mem, named⟩ := exists_row i
    exact ⟨row, mem, named, decode_eq_ok_iff.1 read ▸ encode_masked (named ▸ mem)⟩
  · rintro ⟨row, mem, rfl, masked⟩
    exact decode_of_row mem masked

/-- Settles O5: `classify` decodes, and what decodes is an encoding. -/
theorem wordClassesPartition : Obligations.WordClassesPartition := by
  intro w
  simp only [ne_eq, ← decode_eq_ok_iff, classify]
  cases read : decode w with
  | error e => simp
  | ok i => cases legal : i.wellFormed <;> simp [legal]

/-! ## The assembled word -/

theorem ofNat_toNat_bool (b : Bool) : BitVec.ofNat 16 b.toNat = (BitVec.ofBool b).setWidth 16 := by
  cases b <;> rfl

/-- Settles O7: a field written in front of `n` bits is that field shifted by `n`. -/
theorem assembledWordIsEncoding : Obligations.AssembledWordIsEncoding := by
  intro i
  rw [← BitVec.setWidth_eq (encode i)]
  cases i <;>
    simp [-Nat.reduceAdd, -BitVec.setWidth_eq, assembleWord, encode, BitVec.setWidth_append_eq_shiftLeft_setWidth_or,
      BitVec.shiftLeft_or_distrib, ← BitVec.shiftLeft_add, ofNat_toNat_bool]

/-! ## The step of a command word -/

theorem opcodeOf_toNat (w : CmdWord) : (opcodeOf w).toNat = w.toNat / 4096 := by
  rw [opcodeOf, BitVec.extractLsb'_toNat, Nat.shiftRight_eq_div_pow]
  omega

theorem decode_of_unassigned {w : CmdWord} (h : w.toNat / 4096 = 0 ∨ w.toNat / 4096 = 14 ∨ w.toNat / 4096 = 15) :
    decode w = .error .unassignedOpcode := by
  rw [← opcodeOf_toNat] at h
  obtain op | op | op := h <;> simp only [decode, op]

theorem decode_of_no_row {w : CmdWord} (h : ∀ row ∈ opcodeMap, w &&& row.mask ≠ row.pattern) : ∃ e, decode w = .error e := by
  cases read : decode w with
  | error e => exact ⟨e, rfl⟩
  | ok i =>
    obtain ⟨row, mem, -, masked⟩ := (opcodeMapDecides w i.mnemonic).1 ⟨i, read, rfl⟩
    exact absurd masked (h row mem)

theorem faulted_eq_false {s : State} (clear : s.fault = 0) : s.faulted = false := by
  simp [State.faulted, clear]

theorem step_illegal {s : State} {w : CmdWord} {rest : List HostInput} {e : DecodeError} (next : s.inbox = .cmd w :: rest)
    (clear : s.fault = 0) (read : decode w = .error e) : step s = .next { s with inbox := rest, fault := 1 } := by
  calc step s = .next (State.raiseFault { s with inbox := rest } .illegal) :=
        (step_cons next).trans (issueWith_illegal exec (faulted_eq_false clear) read)
    _ = .next { s with inbox := rest, fault := 1 } := by
        rw [State.raiseFault, setFault_illegal]; simp only [clear]; rfl

/-- Settles O4: such a word decodes to no command. -/
theorem illegalWordFaults : Obligations.IllegalWordFaults := by
  rintro s w rest next clear (op | op | op | unmatched)
  · exact step_illegal next clear (decode_of_unassigned (.inl op))
  · exact step_illegal next clear (decode_of_unassigned (.inr (.inl op)))
  · exact step_illegal next clear (decode_of_unassigned (.inr (.inr op)))
  · obtain ⟨e, read⟩ := decode_of_no_row unmatched
    exact step_illegal next clear read

/-- Settles O10: an admitted word runs what it decodes to. -/
theorem stepRunsDecodedCommand : Obligations.StepRunsDecodedCommand := by
  intro s w rest i next clear read
  exact (step_cons next).trans (issueWith_ok exec (faulted_eq_false clear) read)

end Sys2Proof.Machine
end

section
/-! PROOFS for spec/40_codec.md. The whole next state of SHIN and of SHOUT, and the levels one `ShiftOut` drives on its two pins. -/

namespace Sys2Proof.Machine

/-! ## SHIN -/

/-- Settles O19: `ShiftIn` gives the byte of the next eight answers, which is then returned. -/
theorem shinReturnsSampledByte : Obligations.ShinReturnsSampledByte := by
  intro s
  constructor
  · rw [exec_shin, shiftIn_eq]; rfl
  · exact fun k small => getLsbD_byteOf s.oracle.btnDataAt k small

/-! ## SHOUT -/

/-- Rule R103: the bits go out in the order of the loop, each one on the data line before its clock pulse. -/
theorem drivenLevels_ledData_shiftOutEvents (order : BitOrder) (value : Byte) :
    drivenLevels .ledData (shiftOutEvents order value) = bitOrder.map (outBit order value) := by
  simp [shiftOutEvents, List.map_eq_flatMap]

/-- Rule R103: one clock pulse for each bit, whatever the byte. -/
theorem drivenLevels_ledClk_shiftOutEvents (order : BitOrder) (value : Byte) :
    drivenLevels .ledClk (shiftOutEvents order value) = bitOrder.flatMap fun _ => [true, false] := by
  simp [shiftOutEvents]

/-- Settles O20: `outBit` is bit `i` or bit `7 - i` by the order, the last one the data line's level. -/
theorem shoutSendsByte : Obligations.ShoutSendsByte := by
  intro s order value
  have sent : newEvents s (shiftOut order value s) = shiftOutEvents order value := by
    simp [newEvents]
  refine ⟨shiftOut order value s, exec_shout s order value, ?_, ?_, ?_⟩
  · rw [shiftOut_eq]
    cases order <;> rfl
  · rw [sent, drivenLevels_ledData_shiftOutEvents]
    cases order <;> rfl
  · rw [sent, drivenLevels_ledClk_shiftOutEvents]
    rfl

end Sys2Proof.Machine
end

section
/-! PROOFS for spec/41_buttons.md. The whole next state of RDBTN and INIT, the cell GETBTN returns, and the event words a scan delivers
about one cell of the matrix. -/

namespace Sys2Proof.Machine

/-! ## The words a scan delivers -/

section
variable (b : Bool) (hs hs' : List HistoryEvent)

@[simp] theorem deliveredWords_nil : deliveredWords [] = [] := rfl

@[simp] theorem deliveredWords_append : deliveredWords (hs ++ hs') = deliveredWords hs ++ deliveredWords hs' := List.filterMap_append

@[simp] theorem deliveredWords_flatMap {α : Type} (l : List α) (f : α → List HistoryEvent) :
    deliveredWords (l.flatMap f) = l.flatMap fun a => deliveredWords (f a) := List.filterMap_flatMap

@[simp] theorem deliveredWords_w (p : Pin) : deliveredWords (.w p b :: hs) = deliveredWords hs := rfl

@[simp] theorem deliveredWords_r (p : InPin) : deliveredWords (.r p b :: hs) = deliveredWords hs := rfl

@[simp] theorem deliveredWords_d (us : Nat) : deliveredWords (.d us :: hs) = deliveredWords hs := rfl

@[simp] theorem deliveredWords_t (ms : Millis) : deliveredWords (.t ms :: hs) = deliveredWords hs := rfl

@[simp] theorem deliveredWords_e (word : EvWord) : deliveredWords (.e word :: hs) = word :: deliveredWords hs := rfl

end

@[simp] theorem deliveredWords_shiftInEvents (v : Byte) : deliveredWords (shiftInEvents v) = [] := by
  simp [shiftInEvents]

/-- Rules R113, R115: the words of a scan are those of its rows, top row first. -/
theorem deliveredWords_scannedState (s : State) (notify : Bool) :
    deliveredWords (newEvents s (scannedState s notify)) =
      buttonRowOrder.flatMap fun r => deliveredWords (rowWords s (s.oracle.nowAt 0) notify r) := by
  simp [newEvents, scannedState, scanEvents_eq, frameEvents]

/-! ## RDBTN and INIT -/

theorem exec_rdbtn_of_due {s : State} (due : 10 ≤ (s.oracle.nowAt 0 - s.lastRead).toNat) :
    exec .rdbtn s = .next (scannedState s true) := by
  rw [exec_rdbtn, readButtons_of_due due]

/-- Settles O21: the debounce guard decides between the clock sample alone and a notified scan. -/
theorem rdbtnGuardedScan : Obligations.RdbtnGuardedScan := by
  intro s
  split
  case isTrue early =>
    have guarded : throttled s.nextNow s.lastRead = true := decide_eq_true early
    rw [exec_rdbtn, readButtons_eq, if_pos guarded]
    rfl
  case isFalse late => exact exec_rdbtn_of_due (Nat.not_lt.1 late)

/-- Settles O22: an un-notified scan gives no row a word, whatever the listeners. -/
theorem initScansSilently : Obligations.InitScansSilently := by
  intro s
  refine ⟨exec_init s, fun t run => ?_⟩
  cases (exec_init s).symm.trans run
  rw [deliveredWords_scannedState]
  rfl

/-! ## GETBTN -/

/-- Settles O24: a legal row names the byte whose bit `col` is returned; any other raises `Fault(RANGE)`. -/
theorem getbtnReturnsCell : Obligations.GetbtnReturnsCell := by
  constructor
  · intro s r c
    have widened (b : Bool) : (BitVec.ofBool b).setWidth 8 = if b then 1#8 else 0#8 := by
      cases b <;> rfl
    show execGetbtn _ _ s = _
    rw [execGetbtn, rowOf_ofNat, rangeChecked_some, colOf_ofNat, widened]
    rfl
  · intro s row col outside
    have illegal : (Instr.getbtn row col).wellFormed = false := by
      rw [Instr.wellFormed, rowInRange_eq, rowOf_eq_none.2 outside]
      rfl
    rw [exec_of_not_wellFormed s illegal, State.raiseFault, setFault_range]

/-! ## Event words and the cells they are about -/

section
variable (r : Row) (c : Col)

/-! The fields of an event word that say what it is about (rule R175). The widths stay sums, as in the fields of a command word. -/

theorem fields_down :
    (eventWord (.down r c)).extractLsb' 38 2 = 1 ∧ (eventWord (.down r c)).extractLsb' 35 3 = BitVec.ofNat 3 r.val ∧
      (eventWord (.down r c)).extractLsb' 32 3 = BitVec.ofNat 3 c.val := by
  simp [-Nat.reduceAdd, eventWord, BitVec.extractLsb'_append_eq_of_le, BitVec.extractLsb'_append_eq_of_add_le]

theorem fields_up (held : Millis) :
    (eventWord (.up r c held)).extractLsb' 38 2 = 2 ∧ (eventWord (.up r c held)).extractLsb' 35 3 = BitVec.ofNat 3 r.val ∧
      (eventWord (.up r c held)).extractLsb' 32 3 = BitVec.ofNat 3 c.val := by
  simp [-Nat.reduceAdd, eventWord, BitVec.extractLsb'_append_eq_of_le, BitVec.extractLsb'_append_eq_of_add_le]

theorem kind_pot (ch : Chan) (v : BitVec 10) : (eventWord (.pot ch v)).extractLsb' 38 2 = 3 := by
  simp [-Nat.reduceAdd, eventWord, BitVec.extractLsb'_append_eq_of_le]

end

/-- The cell a button event is about; a pot event is about none (rule R175). -/
def Event.cell : Event → Option (Row × Col)
  | .down r c => some (r, c)
  | .up r c _ => some (r, c)
  | .pot _ _ => none

theorem row_field_beq (r r' : Row) : (BitVec.ofNat 3 r'.val == BitVec.ofNat 3 r.val) = decide (r' = r) := by
  revert r r'; decide

/-- An event is delivered among the words of a cell when it is about that cell and its listener is set (rules R175, R176). -/
theorem cellWords_emitted (r : Row) (c : Col) (lsn : BitVec 3) (ev : Event) :
    cellWords r c (emitted lsn ev) = if ev.cell = some (r, c) ∧ listening lsn ev = true then [eventWord ev] else [] := by
  cases heard : listening lsn ev with
  | false => simp [emitted, heard, cellWords]
  | true =>
    cases ev with
    | down r' c' =>
      obtain ⟨kind, row, col⟩ := fields_down r' c'
      simp [emitted, heard, cellWords, kind, row, col, Event.cell, row_field_beq, List.filter_cons]
    | up r' c' held =>
      obtain ⟨kind, row, col⟩ := fields_up r' c' held
      simp [emitted, heard, cellWords, kind, row, col, Event.cell, row_field_beq, List.filter_cons]
    | pot ch v => simp [emitted, heard, cellWords, kind_pot, Event.cell]

/-! ## The words of a scan about one cell -/

/-- What a scan at time `now` has to tell about a cell: its press, its release with the hold time, or nothing (rule R113). -/
def edgeEvent (s : State) (new : Vector Byte 5) (now : Millis) (r : Row) (c : Col) : Option Event :=
  if risingEdge s.btnCur new r c then some (.down r c)
  else if fallingEdge s.btnCur new r c then some (.up r c (now - s.pressTs[r.val][c.val]))
  else none

theorem cell_of_edgeEvent {s : State} {new : Vector Byte 5} {now : Millis} {r : Row} {c : Col} {ev : Event}
    (edge : edgeEvent s new now r c = some ev) : ev.cell = some (r, c) := by
  unfold edgeEvent at edge
  split at edge
  · cases edge; rfl
  · split at edge
    · cases edge; rfl
    · cases edge

theorem edgeEvents_eq (s : State) (new : Vector Byte 5) (now : Millis) (r : Row) :
    edgeEvents s new now r = colOrder.flatMap fun c => (edgeEvent s new now r c).elim [] (emitted s.lsn) := by
  unfold edgeEvents
  congr 1
  funext c
  unfold edgeEvent
  split
  · rfl
  · split <;> rfl

/-- The words of the cell's own edge, if its listener is set (rule R176). -/
def edgeWords (s : State) (r : Row) (c : Col) : List EvWord :=
  (edgeEvent s (sampledRows s.oracle) (s.oracle.nowAt 0) r c).elim [] fun ev => if listening s.lsn ev then [eventWord ev] else []

theorem cellWords_edgeEvent (s : State) (r r' : Row) (c c' : Col) :
    cellWords r c ((edgeEvent s (sampledRows s.oracle) (s.oracle.nowAt 0) r' c').elim [] (emitted s.lsn)) =
      if r' = r ∧ c' = c then edgeWords s r' c' else [] := by
  unfold edgeWords
  cases edge : edgeEvent s (sampledRows s.oracle) (s.oracle.nowAt 0) r' c' with
  | none => simp [cellWords]
  | some ev =>
    simp only [Option.elim, cellWords_emitted, cell_of_edgeEvent edge, Option.some.injEq, Prod.mk.injEq, ite_and]

/-- The words of a list of which only one element has any. -/
theorem flatMap_eq_of_single {α β : Type} {l : List α} {f : α → List β} {a : α} (nodup : l.Nodup) (mem : a ∈ l)
    (others : ∀ b, b ≠ a → f b = []) : l.flatMap f = f a := by
  induction l with
  | nil => cases mem
  | cons b l ih =>
    obtain ⟨fresh, nodup⟩ := List.nodup_cons.1 nodup
    rw [List.flatMap_cons]
    obtain rfl | later := List.mem_cons.1 mem
    · have rest : l.flatMap f = [] := List.flatMap_eq_nil_iff.2 fun b mem => others b fun same => fresh (same ▸ mem)
      rw [rest, List.append_nil]
    · rw [others b fun same => fresh (same ▸ later), ih nodup later, List.nil_append]

theorem cellWords_flatMap {α : Type} (r : Row) (c : Col) (l : List α) (f : α → List HistoryEvent) :
    cellWords r c (l.flatMap f) = l.flatMap fun a => cellWords r c (f a) := by
  rw [cellWords, deliveredWords_flatMap, List.filter_flatMap]
  rfl

theorem mem_buttonRowOrder (r : Row) : r ∈ buttonRowOrder := by
  revert r; decide

theorem mem_colOrder (c : Col) : c ∈ colOrder := by
  revert c; decide

/-- Every row and every column is looked at once, and only the cell's own edge has words about it. -/
theorem cellWords_scannedState (s : State) (r : Row) (c : Col) :
    cellWords r c (newEvents s (scannedState s true)) = edgeWords s r c := by
  have row (r' : Row) : cellWords r c (rowWords s (s.oracle.nowAt 0) true r') =
      colOrder.flatMap fun c' => if r' = r ∧ c' = c then edgeWords s r' c' else [] := by
    simp only [rowWords, if_true, edgeEvents_eq, cellWords_flatMap, cellWords_edgeEvent]
  have rows : cellWords r c (newEvents s (scannedState s true)) =
      buttonRowOrder.flatMap fun r' => cellWords r c (rowWords s (s.oracle.nowAt 0) true r') := by
    rw [cellWords, deliveredWords_scannedState, List.filter_flatMap]
    rfl
  have otherRows (r' : Row) (other : r' ≠ r) : cellWords r c (rowWords s (s.oracle.nowAt 0) true r') = [] := by
    simp [row, other]
  have otherCols (c' : Col) (other : c' ≠ c) : (if r = r ∧ c' = c then edgeWords s r c' else []) = [] := by
    simp [other]
  rw [rows, flatMap_eq_of_single (by decide) (mem_buttonRowOrder r) otherRows, row,
    flatMap_eq_of_single (by decide) (mem_colOrder c) otherCols]
  exact if_pos ⟨rfl, rfl⟩

theorem edgeWords_press {s : State} {r : Row} {c : Col} (down : s.lsn.getLsbD 0 = true)
    (press : risingEdge s.btnCur (sampledRows s.oracle) r c = true) : edgeWords s r c = [eventWord (.down r c)] := by
  simp [-BitVec.getLsbD_eq_getElem, edgeWords, edgeEvent, press, listening, listenerSlot, down]

theorem edgeWords_release {s : State} {r : Row} {c : Col} (up : s.lsn.getLsbD 1 = true)
    (release : fallingEdge s.btnCur (sampledRows s.oracle) r c = true) :
    edgeWords s r c = [eventWord (.up r c (s.oracle.nowAt 0 - s.pressTs[r.val][c.val]))] := by
  have noPress : risingEdge s.btnCur (sampledRows s.oracle) r c = false := by
    obtain ⟨old, -⟩ := Bool.and_eq_true_iff.1 release
    simp only [risingEdge, old, Bool.not_true, Bool.false_and]
  simp [-BitVec.getLsbD_eq_getElem, edgeWords, edgeEvent, release, noPress, listening, listenerSlot, up]

/-- Settles O25: the first scan records the time of the press in `press_ts`, and the second one subtracts it. -/
theorem pressThenReleaseReported : Obligations.PressThenReleaseReported := by
  intro s r c down up idle due due' pressed released
  have press : risingEdge s.btnCur (sampledRows s.oracle) r c = true := by
    simp only [risingEdge, sampledRows_getLsbD, idle, pressed]; rfl
  have stored : (scannedState s true).btnCur = sampledRows s.oracle := rfl
  have release : fallingEdge (scannedState s true).btnCur (sampledRows (scannedState s true).oracle) r c = true := by
    have later : (scannedState s true).oracle.btnDataAt (8 * (4 - r.val) + c.val) = false := by simpa [scannedState] using released
    simp only [stored, fallingEdge, sampledRows_getLsbD, pressed, later]; rfl
  have clock : (scannedState s true).oracle.nowAt 0 = s.oracle.nowAt 1 := by simp [scannedState]
  have recorded : (scannedState s true).pressTs[r.val][c.val] = s.oracle.nowAt 0 :=
    (scannedPressTs_getElem s _ r c).trans (if_pos press)
  have dueAgain : 10 ≤ ((scannedState s true).oracle.nowAt 0 - (scannedState s true).lastRead).toNat := by rw [clock]; exact due'
  refine ⟨_, _, exec_rdbtn_of_due due, exec_rdbtn_of_due dueAgain, ?_, ?_⟩
  · rw [cellWords_scannedState, edgeWords_press down press]
  · rw [cellWords_scannedState, edgeWords_release (s := scannedState s true) up release, clock, recorded]

end Sys2Proof.Machine
end

section
/-! PROOFS for spec/42_leds.md. The whole next state of WRLED, WRITE, SETLED and SETROW, and the blink two WRITEs make. -/

namespace Sys2Proof.Machine

/-! ## WRLED and WRITE -/

/-- Settles O26: WRLED is one LED write. -/
theorem wrledSendsFrame : Obligations.WrledSendsFrame := by
  intro s
  rw [exec_wrled, writeLeds_eq]

/-- Settles O27: the LED write comes first, on the parity before; the counter's addition is modulo 256. -/
theorem writeAdvancesFrame : Obligations.WriteAdvancesFrame := by
  intro s
  have wraps : s.frame + 1 = BitVec.ofNat 8 ((s.frame.toNat + 1) % 256) := by
    apply BitVec.eq_of_toNat_eq
    simp [BitVec.toNat_add]
  rw [exec_write, writeLeds_eq, ← wraps]
  rfl

/-! ## The blink -/

section
variable {s t : State}

/-- Rule R133: the wrap from 255 to 0 turns the parity too. -/
theorem write_led_parity (run : exec .write s = .next t) : t.led = s.led ∧ t.frame.toNat % 2 = (s.frame.toNat + 1) % 2 := by
  cases (writeAdvancesFrame s).symm.trans run
  refine ⟨rfl, ?_⟩
  simp only [BitVec.toNat_ofNat]
  omega

/-- The levels one WRITE drives are those `ledFrameOrder` gives. -/
theorem write_drivenLevels (run : exec .write s = .next t) :
    drivenLevels .ledData (newEvents s t) =
      List.ofFn fun n : Fin 40 => (s.frame.toNat % 2 == 0) && (s.led[n.val / 8]'(by omega)).getLsbD (n.val % 8) := by
  obtain ⟨t', run', levels⟩ := ledFrameOrder s .write (.inr rfl)
  cases run'.symm.trans run
  exact levels

theorem write_drivenLevels_of_even (run : exec .write s = .next t) (even : s.frame.toNat % 2 = 0) :
    drivenLevels .ledData (newEvents s t) = List.ofFn fun n : Fin 40 => (s.led[n.val / 8]'(by omega)).getLsbD (n.val % 8) := by
  simp only [write_drivenLevels run, even, beq_self_eq_true, Bool.true_and]

theorem write_drivenLevels_of_odd (run : exec .write s = .next t) (odd : s.frame.toNat % 2 = 1) :
    drivenLevels .ledData (newEvents s t) = List.replicate 40 false := by
  rw [write_drivenLevels run, odd]
  exact List.ofFn_const 40 false

end

/-- Settles O29: a WRITE keeps the rows and turns the parity, so the second one shows what the first did not. -/
theorem writesBlink : Obligations.WritesBlink := by
  intro s
  obtain ⟨t, first, -⟩ := ledFrameOrder s .write (.inr rfl)
  obtain ⟨u, second, -⟩ := ledFrameOrder t .write (.inr rfl)
  obtain ⟨kept, turned⟩ := write_led_parity first
  refine ⟨t, u, first, second, fun even => write_drivenLevels_of_odd second (by omega), write_drivenLevels_of_odd first, ?_⟩
  split
  case isTrue even => exact write_drivenLevels_of_even first even
  case isFalse odd =>
    rw [write_drivenLevels_of_even second (by omega)]
    simp only [kept]

/-! ## SETLED and SETROW -/

theorem exec_setled_row (s : State) (r : Row) (col : BitVec 3) (val : Bool) :
    exec (.setled (BitVec.ofNat 3 r.val) col val) s = .next (s.setLedBit r (colOf col) val) := by
  show execSetled _ _ _ s = _
  rw [execSetled, rowOf_ofNat, rangeChecked_some]

theorem exec_setrow_row (s : State) (r : Row) (value : Byte) :
    exec (.setrow (BitVec.ofNat 3 r.val) value) s = .next (s.setLedRow r value) := by
  show execSetrow _ _ s = _
  rw [execSetrow, rowOf_ofNat, rangeChecked_some]

/-- Rule R172: a command whose only check is its row's does nothing but raise `Fault(RANGE)` on rows 5 to 7. -/
theorem exec_of_row_outside {i : Instr} {row : BitVec 3} (s : State) (checks : i.wellFormed = rowInRange row)
    (outside : 4 < row.toNat) : exec i s = .next { s with fault := s.fault ||| 2 } := by
  have illegal : i.wellFormed = false := by
    rw [checks, rowInRange_eq, rowOf_eq_none.2 outside]
    rfl
  rw [exec_of_not_wellFormed s illegal, State.raiseFault, setFault_range]

/-- Settles O30: the new byte is the old one with bit `7 - col` set to `val`. -/
theorem setledWritesOneBit : Obligations.SetledWritesOneBit := by
  constructor
  · intro s r c val
    refine ⟨setBit s.led[r.val] (ledBit c) val, ?_, fun k small => ?_⟩
    · rw [exec_setled_row, colOf_ofNat]
      rfl
    · rw [getLsbD_setBit]
      simp only [ledBit, small, and_true, eq_comm]
  · exact fun s _ _ _ outside => exec_of_row_outside s rfl outside

/-- Settles O31: a legal row is replaced, and no other register has a part in it. -/
theorem setrowStoresByte : Obligations.SetrowStoresByte :=
  ⟨exec_setrow_row, fun s _ _ outside => exec_of_row_outside s rfl outside⟩

end Sys2Proof.Machine
end

section
/-! PROOFS for spec/43_pots.md. The whole next state of RDPOT, the arithmetic of a raw sample, and the silence of a pass that samples
what is already stored. -/

namespace Sys2Proof.Machine

/-! ## RDPOT -/

/-- Settles O32: RDPOT is one pot pass. -/
theorem rdpotPass : Obligations.RdpotPass := exec_rdpot

/-! ## From a raw sample to its bucket -/

section
variable {raw : Raw}

theorem clamp_of_lt (below : raw.toNat < 25) : clamp raw = 25 := if_pos below

/-- From the lower bound on, only the upper one is left to compare with. -/
theorem clamp_of_ge (low : 25 ≤ raw.toNat) : clamp raw = if 1000 < raw.toNat then 1000 else raw.toNat :=
  if_neg (Nat.not_lt.2 low)

theorem clamp_of_gt (above : 1000 < raw.toNat) : clamp raw = 1000 := by
  rw [clamp_of_ge (by omega), if_pos above]

theorem clamp_of_mem (low : 25 ≤ raw.toNat) (high : raw.toNat ≤ 1000) : clamp raw = raw.toNat := by
  rw [clamp_of_ge low, if_neg (Nat.not_lt.2 high)]

end

/-- Settles O33: the clamped sample is in the band, where the rescale map is the exact quotient. -/
theorem potArithmetic : Obligations.PotArithmetic := fun raw =>
  ⟨clamp_of_lt, clamp_of_gt, clamp_of_mem, rescale_toNat (clamp_bounds raw).2, quantize_toNat (potValue raw)⟩

/-! ## The rescale map -/

/-- Rule R148: one step of the input adds 1023 to the product, more than the divisor. -/
theorem rescale_lt_rescale {c d : Nat} (low : 25 ≤ c) (less : c < d) (high : d ≤ 1000) :
    (rescale c).toNat < (rescale d).toNat := by
  rw [rescale_toNat (by omega), rescale_toNat high]
  omega

/-- Rule R148: the map passes over 21, where its slope has gained a whole output on the input: 45 gives 20 and 46 gives 22. -/
theorem rescale_ne_21 {c : Nat} (high : c ≤ 1000) : rescale c ≠ 21 := by
  intro produced
  have quotient : (c - 25) * 1023 / 975 = 21 := by rw [← rescale_toNat high, produced]; rfl
  omega

/-- Settles O34: the product at the top of the band is 975 * 1023 = 997425. -/
theorem rescaleFacts : Obligations.RescaleFacts :=
  ⟨rfl, rfl, fun _ _ => rescale_lt_rescale, fun c _ high => ⟨by omega, rescale_toNat high⟩, 21, fun _ _ => rescale_ne_21⟩

/-! ## A pass that samples what is stored -/

@[simp] theorem deliveredWords_a (raw : Raw) (hs : List HistoryEvent) : deliveredWords (.a raw :: hs) = deliveredWords hs := rfl

@[simp] theorem deliveredWords_selectEvents (ch : Chan) : deliveredWords (selectEvents ch) = [] := rfl

/-- Rule R146: the words of a pot pass are those of its channels' changed buckets. -/
theorem deliveredWords_potPassState (s : State) :
    deliveredWords (newEvents s (potPassState s)) =
      chanOrder.flatMap fun ch => deliveredWords (potEvents s ch (s.oracle.ainAt ch.val)) := by
  simp [newEvents, potPassState, potPassEvents]

theorem potPassState_potQ (s : State) (ch : Chan) : (potPassState s).potQ[ch.val] = potBucket (s.oracle.ainAt ch.val) := by
  simp [potPassState]

theorem potPassState_ainAt (s : State) (n : Nat) : (potPassState s).oracle.ainAt n = s.oracle.ainAt (6 + n) :=
  Oracle.ainAt_drawAin s.oracle 6 n

/-- The next pass samples, on every channel, a raw value of the bucket stored for it. -/
def State.SamplesStored (s : State) : Prop := ∀ ch : Chan, potBucket (s.oracle.ainAt ch.val) = s.potQ[ch.val]

section
variable {s : State}

theorem State.SamplesStored.potPassState_silent (h : s.SamplesStored) : deliveredWords (newEvents s (potPassState s)) = [] := by
  have unchanged : ∀ ch : Chan, potEvents s ch (s.oracle.ainAt ch.val) = [] := fun ch => if_pos (h ch)
  rw [deliveredWords_potPassState]
  simp only [unchanged, deliveredWords_nil, List.flatMap_eq_nil_iff, implies_true]

theorem State.SamplesStored.potPassState_potQ (h : s.SamplesStored) : (potPassState s).potQ = s.potQ := by
  ext1 n small
  rw [Machine.potPassState_potQ s ⟨n, small⟩, h ⟨n, small⟩]

/-- A pass stores the buckets of its own samples, so the same samples again are the stored ones. -/
theorem potPassState_samplesStored (again : ∀ ch : Chan, s.oracle.ainAt (6 + ch.val) = s.oracle.ainAt ch.val) :
    (potPassState s).SamplesStored := by
  intro ch
  rw [potPassState_ainAt, potPassState_potQ, again]

end

/-- Settles O35: the second pass samples what the first one stored. -/
theorem secondPassSilent : Obligations.SecondPassSilent := by
  intro s again
  have stored := potPassState_samplesStored again
  exact ⟨_, _, exec_rdpot s, exec_rdpot _, stored.potPassState_silent, stored.potPassState_potQ⟩

end Sys2Proof.Machine
end

section
/-! PROOFS for spec/44_coordinator.md. READ as RDBTN then RDPOT, the whole next state of LISTEN and of GETCFG. -/

namespace Sys2Proof.Machine

/-! ## READ -/

/-- Settles O36: a pot pass follows the button read whether or not the debounce guard let it scan. -/
theorem readIsButtonsThenPots : Obligations.ReadIsButtonsThenPots := fun s =>
  ⟨readButtons s, potPassState (readButtons s), exec_rdbtn s, exec_rdpot (readButtons s), exec_read s⟩

/-! ## LISTEN and GETCFG -/

/-- Rule R163: a slot's field names that slot. -/
theorem exec_listen_slot (s : State) (j : Slot) (en : Bool) :
    exec (.listen (BitVec.ofNat 2 j.val) en) s = .next (s.setListener j en) := by
  show execListen _ en s = _
  rw [execListen, slotOf_ofNat, rangeChecked_some]

/-- Rule R164: an index that names a constant returns it. -/
theorem exec_getcfg_const {k : BitVec 2} {v : Byte} (s : State) (named : constOf k = some v) :
    exec (.getcfg k) s = .next (s.returnResult v) := by
  show execGetcfg k s = _
  rw [execGetcfg, named, rangeChecked_some]

/-- Rule R172: all that an operand out of range does is to set bit 1 of `fault`. -/
theorem exec_of_not_wellFormed_fault {i : Instr} (s : State) (illegal : i.wellFormed = false) :
    exec i s = .next { s with fault := s.fault ||| 2 } := by
  rw [exec_of_not_wellFormed s illegal, State.raiseFault, setFault_range]

/-- Settles O37: the new enables are the old ones with bit `slot` set to `en`. -/
theorem listenWritesOneEnable : Obligations.ListenWritesOneEnable := by
  constructor
  · intro s j en
    refine ⟨setBit s.lsn j.val en, exec_listen_slot s j en, fun k small => ?_⟩
    rw [getLsbD_setBit]
    simp only [small, and_true, eq_comm]
  · exact fun s en => exec_of_not_wellFormed_fault s (i := .listen 3 en) rfl

/-- Settles O38: indices 0, 1 and 2 name `ROWS`, `COLS` and `POT_COUNT`; index 3 names nothing. -/
theorem getcfgReturnsConstants : Obligations.GetcfgReturnsConstants := fun s =>
  ⟨exec_getcfg_const s (k := 0) (v := 5) rfl,
   exec_getcfg_const s (k := 1) (v := 8) rfl,
   exec_getcfg_const s (k := 2) (v := 6) rfl,
   exec_of_not_wellFormed_fault s (i := .getcfg 3) rfl⟩

end Sys2Proof.Machine
end

section
/-! PROOFS for spec/60_exceptions.md. The fields of an event word and who delivers one; the word that raises a fault, the words a
faulted GSIO refuses, and the runs of legal words. -/

namespace Sys2Proof.Machine

/-! ## The fields of an event word -/

theorem toNat_ofNat_three {n : Nat} (small : n < 8) : (BitVec.ofNat 3 n).toNat = n :=
  (BitVec.toNat_ofNat n 3).trans (Nat.mod_eq_of_lt small)

section
variable (r : Row) (c : Col)

theorem wordFields_down :
    (eventWord (.down r c)).extractLsb' 38 2 = 1 ∧ ((eventWord (.down r c)).extractLsb' 35 3).toNat = r.val ∧
      ((eventWord (.down r c)).extractLsb' 32 3).toNat = c.val ∧ (eventWord (.down r c)).extractLsb' 0 32 = 0 := by
  obtain ⟨kind, row, col⟩ := fields_down r c
  rw [row, col]
  exact ⟨kind, toNat_ofNat_three (by omega), toNat_ofNat_three (by omega), BitVec.extractLsb'_append_eq_right⟩

theorem wordFields_up (held : Millis) :
    (eventWord (.up r c held)).extractLsb' 38 2 = 2 ∧ ((eventWord (.up r c held)).extractLsb' 35 3).toNat = r.val ∧
      ((eventWord (.up r c held)).extractLsb' 32 3).toNat = c.val ∧ (eventWord (.up r c held)).extractLsb' 0 32 = held := by
  obtain ⟨kind, row, col⟩ := fields_up r c held
  rw [row, col]
  exact ⟨kind, toNat_ofNat_three (by omega), toNat_ofNat_three (by omega), BitVec.extractLsb'_append_eq_right⟩

theorem wordFields_pot (ch : Chan) (v : BitVec 10) :
    (eventWord (.pot ch v)).extractLsb' 38 2 = 3 ∧ ((eventWord (.pot ch v)).extractLsb' 35 3).toNat = ch.val ∧
      (eventWord (.pot ch v)).extractLsb' 32 3 = 0 ∧ ((eventWord (.pot ch v)).extractLsb' 0 32).toNat = v.toNat := by
  have chan : (eventWord (.pot ch v)).extractLsb' 35 3 = BitVec.ofNat 3 ch.val := by
    simp [-Nat.reduceAdd, eventWord, BitVec.extractLsb'_append_eq_of_le, BitVec.extractLsb'_append_eq_of_add_le]
  have unused : (eventWord (.pot ch v)).extractLsb' 32 3 = 0 := by
    simp [-Nat.reduceAdd, eventWord, BitVec.extractLsb'_append_eq_of_le, BitVec.extractLsb'_append_eq_of_add_le]
  have data : (eventWord (.pot ch v)).extractLsb' 0 32 = v.setWidth 32 := BitVec.extractLsb'_append_eq_right
  rw [chan, data]
  exact ⟨kind_pot ch v, toNat_ofNat_three (by omega), unused, BitVec.toNat_setWidth_of_le (by decide)⟩

end

/-- Settles O8: the word is its four fields side by side. -/
theorem eventWordFields : Obligations.EventWordFields :=
  fun r c held ch v => ⟨wordFields_down r c, wordFields_up r c held, wordFields_pot ch v⟩

/-- Rule R175: the kind of a word is one more than the listener slot of its event. -/
theorem eventWord_kind (ev : Event) : ((eventWord ev).extractLsb' 38 2).toNat = (listenerSlot ev).val + 1 := by
  cases ev with
  | down r c => rw [(wordFields_down r c).1]; rfl
  | up r c held => rw [(wordFields_up r c held).1]; rfl
  | pot ch v => rw [(wordFields_pot ch v).1]; rfl

/-- Settles O9: the kind tells the constructor, and the other three fields its arguments. -/
theorem eventWordInjective : Obligations.EventWordInjective := by
  intro e f same
  have kind : (listenerSlot e).val + 1 = (listenerSlot f).val + 1 := by rw [← eventWord_kind, ← eventWord_kind, same]
  cases e with
  | down r c =>
    cases f with
    | down r' c' =>
      obtain ⟨-, row, col, -⟩ := wordFields_down r c
      obtain ⟨-, row', col', -⟩ := wordFields_down r' c'
      rw [same] at row col
      rw [Fin.ext (row.symm.trans row'), Fin.ext (col.symm.trans col')]
    | _ => simp [listenerSlot] at kind
  | up r c held =>
    cases f with
    | up r' c' held' =>
      obtain ⟨-, row, col, time⟩ := wordFields_up r c held
      obtain ⟨-, row', col', time'⟩ := wordFields_up r' c' held'
      rw [same] at row col time
      rw [Fin.ext (row.symm.trans row'), Fin.ext (col.symm.trans col'), time.symm.trans time']
    | _ => simp [listenerSlot] at kind
  | pot ch v =>
    cases f with
    | pot ch' v' =>
      obtain ⟨-, chan, -, value⟩ := wordFields_pot ch v
      obtain ⟨-, chan', -, value'⟩ := wordFields_pot ch' v'
      rw [same] at chan value
      rw [Fin.ext (chan.symm.trans chan'), BitVec.eq_of_toNat_eq (value.symm.trans value')]
    | _ => simp [listenerSlot] at kind

/-! ## Every delivered word is one the table describes -/

theorem eventWord_produced (ev : Event) : EvWord.produced (eventWord ev) = true := by
  cases ev with
  | down r c =>
    obtain ⟨kind, row, -, data⟩ := wordFields_down r c
    simp [EvWord.produced, kind, row, data]
  | up r c held =>
    obtain ⟨kind, row, -, -⟩ := wordFields_up r c held
    simp [EvWord.produced, kind, row]
  | pot ch v =>
    obtain ⟨kind, chan, unused, value⟩ := wordFields_pot ch v
    have small : v.toNat < 1024 := v.isLt
    simp [EvWord.produced, kind, chan, unused, value, small]

namespace State.EventsProduced

variable {s t : State}

/-- What the history holds is all that counts. -/
theorem of_prefix (h : s.EventsProduced) (part : t.hist <+: s.hist) : t.EventsProduced := fun word mem => h word (part.subset mem)

/-- An operation that appends no event word. -/
theorem append_one {x : HistoryEvent} (h : s.EventsProduced) (grown : t.hist = s.hist ++ [x]) (silent : ∀ word, x ≠ .e word) :
    t.EventsProduced := by
  intro word mem
  rw [grown, List.mem_append, List.mem_singleton] at mem
  obtain old | new := mem
  · exact h word old
  · exact absurd new.symm (silent word)

/-- Rule R176: what `Emit` appends is the word of its event, or nothing. -/
theorem emit (h : s.EventsProduced) (ev : Event) : (s.emit ev).EventsProduced := by
  intro word mem
  rw [State.emit_hist, List.mem_append] at mem
  obtain old | new := mem
  · exact h word old
  · unfold emitted at new
    split at new
    · cases List.mem_singleton.1 new; exact eventWord_produced ev
    · cases new

theorem primitive (h : s.EventsProduced) (run : Primitive s t) : t.EventsProduced := by
  cases run with
  | pinWrite p b => exact h.append_one rfl nofun
  | pinRead => exact h.append_one rfl nofun
  | delayUs n => exact h.append_one rfl nofun
  | analogSample => exact h.append_one rfl nofun
  | nowMs => exact h.append_one rfl nofun
  | emit ev => exact h.emit ev
  | returnResult v => exact h.append_one rfl nofun
  | registers hist _ _ _ _ => exact h.of_prefix (hist ▸ List.prefix_refl _)

theorem reaches (h : s.EventsProduced) (run : Reaches s t) : t.EventsProduced := by
  induction run with
  | refl => exact h
  | tail _ last ih => exact ih.primitive last

end State.EventsProduced

theorem stepKeeps_eventsProduced : StepKeeps State.EventsProduced where
  inbox _ h := h
  illegal _ h := h
  command _ h run := h.reaches (exec_reaches run)
  reset _ _ _ _ h seen := h.of_prefix seen

/-- Settles O50: the one primitive that delivers a word, `Emit`, delivers the word of an event. -/
theorem stepKeepsEventsProduced : Obligations.StepKeepsEventsProduced := fun _ _ => stepKeeps_eventsProduced.step

/-! ## Who delivers how many words -/

@[simp] theorem deliveredWords_res (v : Byte) (hs : List HistoryEvent) : deliveredWords (.res v :: hs) = deliveredWords hs := rfl

@[simp] theorem deliveredWords_shiftOutEvents (order : BitOrder) (value : Byte) : deliveredWords (shiftOutEvents order value) = [] := by
  simp [shiftOutEvents]

theorem deliveredWords_ledWriteEvents (s : State) : deliveredWords (ledWriteEvents s) = [] := by
  simp [ledWriteEvents]

theorem length_deliveredWords_emitted (lsn : BitVec 3) (ev : Event) : (deliveredWords (emitted lsn ev)).length ≤ 1 := by
  unfold emitted
  split <;> simp

/-- Rule R113: a cell has at most one edge, and an edge at most one word. -/
theorem length_deliveredWords_edgeEvent (s : State) (new : Vector Byte 5) (now : Millis) (r : Row) (c : Col) :
    (deliveredWords ((edgeEvent s new now r c).elim [] (emitted s.lsn))).length ≤ 1 := by
  cases edgeEvent s new now r c with
  | none => exact Nat.zero_le 1
  | some ev => exact length_deliveredWords_emitted s.lsn ev

/-- Rule R146: a channel has at most one word. -/
theorem length_deliveredWords_potEvents (s : State) (ch : Chan) (raw : Raw) : (deliveredWords (potEvents s ch raw)).length ≤ 1 := by
  unfold potEvents
  split
  · exact Nat.zero_le 1
  · exact length_deliveredWords_emitted s.lsn _

theorem length_flatMap_le {α β : Type} {l : List α} {f : α → List β} {n : Nat} (h : ∀ a, (f a).length ≤ n) :
    (l.flatMap f).length ≤ l.length * n := by
  rw [List.length_flatMap]
  simpa using List.sum_le_card_nsmul (l.map fun a => (f a).length) n (by simpa using fun a _ => h a)

theorem length_deliveredWords_rowWords (s : State) (now : Millis) (notify : Bool) (r : Row) :
    (deliveredWords (rowWords s now notify r)).length ≤ 8 := by
  cases notify with
  | false => exact Nat.zero_le 8
  | true =>
    show (deliveredWords (edgeEvents s (sampledRows s.oracle) now r)).length ≤ 8
    rw [edgeEvents_eq, deliveredWords_flatMap]
    exact length_flatMap_le fun c => length_deliveredWords_edgeEvent s _ now r c

/-- Five rows of eight cells. -/
theorem length_deliveredWords_scannedState (s : State) (notify : Bool) :
    (deliveredWords (newEvents s (scannedState s notify))).length ≤ 40 := by
  rw [deliveredWords_scannedState]
  exact length_flatMap_le fun r => length_deliveredWords_rowWords s _ notify r

theorem length_deliveredWords_readButtons (s : State) : (deliveredWords (newEvents s (readButtons s))).length ≤ 40 := by
  rw [readButtons_eq]
  split
  · simp [newEvents]
  · exact length_deliveredWords_scannedState s true

/-- Six channels. -/
theorem length_deliveredWords_potPassState (s : State) : (deliveredWords (newEvents s (potPassState s))).length ≤ 6 := by
  rw [deliveredWords_potPassState]
  exact length_flatMap_le fun ch => length_deliveredWords_potEvents s ch _

/-- Rule R161: the words of READ are those of its button read and then those of its pot pass. -/
theorem newEvents_read (s : State) :
    newEvents s (potPassState (readButtons s)) =
      newEvents s (readButtons s) ++ newEvents (readButtons s) (potPassState (readButtons s)) :=
  ((exec_records (exec_rdbtn s)).1.trans (exec_records (exec_rdpot (readButtons s))).1).newEvents_eq

/-- A range-checked command delivers what its legal part does: the fault delivers nothing. -/
theorem deliveredWords_rangeChecked {α : Type} (s : State) (operand : Option α) {legal : α → State}
    (silent : ∀ a, deliveredWords (newEvents s (legal a)) = []) : deliveredWords (newEvents s (s.rangeChecked operand legal)) = [] := by
  cases operand with
  | none => simp [rangeChecked_none, newEvents]
  | some a => exact silent a

/-- How many event words a command can deliver (rule R178: one for each cell of a scan and each channel of a pot pass). -/
def wordLimit : Instr → Nat
  | .rdbtn => 40
  | .rdpot => 6
  | .read => 46
  | _ => 0

theorem length_deliveredWords_exec {i : Instr} {s t : State} (run : exec i s = .next t) :
    (deliveredWords (newEvents s t)).length ≤ wordLimit i := by
  have of_silent {u : State} (answered : exec i s = .next u) (silent : deliveredWords (newEvents s u) = []) :
      (deliveredWords (newEvents s t)).length ≤ wordLimit i := by
    cases answered.symm.trans run
    rw [silent]
    exact Nat.zero_le _
  cases i with
  | init => exact of_silent run ((initScansSilently s).2 t run)
  | read =>
    cases (exec_read s).symm.trans run
    rw [newEvents_read, deliveredWords_append, List.length_append]
    exact Nat.add_le_add (length_deliveredWords_readButtons s) (length_deliveredWords_potPassState _)
  | write =>
    obtain ⟨_, answered, events⟩ := exec_of_ledWrite s (.inr rfl)
    exact of_silent answered (events ▸ deliveredWords_ledWriteEvents s)
  | rdbtn =>
    cases (exec_rdbtn s).symm.trans run
    exact length_deliveredWords_readButtons s
  | rdpot =>
    cases (exec_rdpot s).symm.trans run
    exact length_deliveredWords_potPassState s
  | wrled =>
    obtain ⟨_, answered, events⟩ := exec_of_ledWrite s (.inl rfl)
    exact of_silent answered (events ▸ deliveredWords_ledWriteEvents s)
  | shin => exact of_silent (exec_shin s) (by simp [newEvents])
  | shout order value => exact of_silent (exec_shout s order value) (by simp [newEvents])
  | setled row col val =>
    exact of_silent rfl (deliveredWords_rangeChecked s _ fun r => by simp [newEvents, State.setLedBit])
  | setrow row value => exact of_silent rfl (deliveredWords_rangeChecked s _ fun r => by simp [newEvents])
  | getbtn row col => exact of_silent rfl (deliveredWords_rangeChecked s _ fun r => by simp [newEvents])
  | listen slot en => exact of_silent rfl (deliveredWords_rangeChecked s _ fun j => by simp [newEvents])
  | getcfg k => exact of_silent rfl (deliveredWords_rangeChecked s _ fun v => by simp [newEvents])

/-- Settles O40: every other command's limit is 0. -/
theorem eventSourcesComplete : Obligations.EventSourcesComplete := by
  intro i s t run
  have limited := length_deliveredWords_exec run
  refine ⟨fun delivered => ?_, ?_, ?_, ?_⟩
  · have positive : 0 < wordLimit i := (List.length_pos_iff.2 delivered).trans_le limited
    cases i with
    | rdbtn => exact .inl rfl
    | rdpot => exact .inr (.inl rfl)
    | read => exact .inr (.inr rfl)
    | _ => exact absurd positive (Nat.lt_irrefl 0)
  all_goals
    rintro rfl
    exact limited

/-! ## The commands and the faults they raise -/

/-- Settles O14, by the step's own equation. -/
theorem idleChangesNothing : Obligations.IdleChangesNothing := fun _ => step_idle

theorem exec_fault_of_wellFormed {i : Instr} {s t : State} (legal : i.wellFormed = true) (run : exec i s = .next t) :
    t.fault = s.fault := by
  obtain ⟨-, -, -, -, -, -, faults, -⟩ := writersOfEachRegister i s t run
  by_contra raised
  exact Bool.noConfusion (legal.symm.trans (faults raised))

/-- Settles O13: every command answers, and only one out of range writes `fault`. -/
theorem legalCommandsComplete : Obligations.LegalCommandsComplete := by
  intro i s legal
  obtain ⟨t, run, -⟩ := exec_next_reaches i s
  exact ⟨t, run, exec_fault_of_wellFormed legal run⟩

/-- Settles O12: the five causes are the five range checks, and a legal command leaves `fault`. -/
theorem rangeFaultsComplete : Obligations.RangeFaultsComplete :=
  ⟨fun s _ _ _ _ outside =>
    ⟨exec_of_row_outside s rfl outside, exec_of_row_outside s rfl outside, exec_of_row_outside s rfl outside⟩,
   fun s en => exec_of_not_wellFormed_fault s (i := .listen 3 en) rfl,
   fun s => exec_of_not_wellFormed_fault s (i := .getcfg 3) rfl,
   fun _ _ _ => exec_fault_of_wellFormed⟩

/-! ## A consumer that takes only some events -/

theorem eventsOffered_eq (s t : State) : eventsOffered s t = (deliveredWords (newEvents s t)).length := by
  rw [eventsOffered, deliveredWords, List.length_filterMap_eq_countP]
  congr 1
  funext h
  cases h <;> rfl

/-- Rule R177: the answer with `k` events taken, from the answer with all of them taken. -/
theorem issueUntaken_of_next {w : CmdWord} {k : Nat} {s t : State} (h : issueWith exec w s = .next t) :
    issueUntaken exec w k s = if k < (deliveredWords (newEvents s t)).length then .fault .consumerStalled else .next t := by
  simp only [issueUntaken, h, eventsOffered_eq]

/-- Settles O18: the events offered are the words delivered where the consumer takes them all. -/
theorem untakenEventStalls : Obligations.UntakenEventStalls := by
  intro s u w k rest next run
  have answer : step s = if k < (deliveredWords (newEvents s u)).length then .fault .consumerStalled else .next u :=
    (step_cons next).trans (issueUntaken_of_next run)
  exact ⟨fun stalls => answer.trans (if_pos stalls), fun enough => answer.trans (if_neg (Nat.not_lt.2 enough))⟩

/-! ## A faulted GSIO -/

theorem faulted_eq_true {s : State} (faulted : s.fault ≠ 0) : s.faulted = true := by
  simpa [State.faulted] using faulted

theorem issueUntaken_faulted {w : CmdWord} {k : Nat} {s : State} (faulted : s.faulted = true) :
    issueUntaken exec w k s = .next s := by
  simp [issueUntaken_of_next (issueWith_faulted exec w faulted), newEvents]

section
variable {s : State} {w : CmdWord} {rest : List HostInput}

theorem step_cmd_faulted (faulted : s.fault ≠ 0) (next : s.inbox = .cmd w :: rest) : step s = .next { s with inbox := rest } :=
  (step_cons next).trans (issueWith_faulted exec w (faulted_eq_true faulted))

theorem step_cmdUntaken_faulted {k : Nat} (faulted : s.fault ≠ 0) (next : s.inbox = .cmdUntaken w k :: rest) :
    step s = .next { s with inbox := rest } :=
  (step_cons next).trans (issueUntaken_faulted (faulted_eq_true faulted))

end

/-- Settles O11: both inputs that only carry a word discard it, so an input with RESET is left to change `fault`. -/
theorem faultedRefusesCommands : Obligations.FaultedRefusesCommands := by
  intro s w k rest faulted
  refine ⟨step_cmd_faulted faulted, step_cmdUntaken_faulted faulted, fun t run => ?_⟩
  cases next : s.inbox with
  | nil => cases (step_idle next).symm.trans run; exact .inl rfl
  | cons input rest =>
    cases input with
    | cmd w => cases (step_cmd_faulted faulted next).symm.trans run; exact .inl rfl
    | cmdThenReset w n => exact .inr (.inr ⟨w, n, rest, rfl⟩)
    | cmdUntaken w k => cases (step_cmdUntaken_faulted faulted next).symm.trans run; exact .inl rfl
    | reset => exact .inr (.inl ⟨rest, rfl⟩)

/-! ## What an issued word does -/

section
variable {s t : State} {w : CmdWord}

theorem issueWith_legal (clear : s.fault = 0) (legal : classify w = .legal) :
    ∃ t, issueWith exec w s = .next t ∧ t.fault = 0 := by
  cases read : decode w with
  | error e => simp [classify, read] at legal
  | ok i =>
    have inRange : i.wellFormed = true := by simpa [classify, read] using legal
    obtain ⟨t, run, kept⟩ := legalCommandsComplete i s inRange
    exact ⟨t, (issueWith_ok exec (faulted_eq_false clear) read).trans run, kept.trans clear⟩

/-- Rule R171: a bad word sets the bit of its fault, and that is all it does. -/
theorem issueWith_not_legal (clear : s.fault = 0) (bad : classify w ≠ .legal) :
    issueWith exec w s = .next { s with fault := if classify w = .illegal then 1 else 2 } := by
  cases read : decode w with
  | error e =>
    have illegal : classify w = .illegal := by simp [classify, read]
    rw [issueWith_illegal exec (faulted_eq_false clear) read, State.raiseFault, setFault_illegal, clear, if_pos illegal]
    rfl
  | ok i =>
    have outside : i.wellFormed = false := by simpa [classify, read] using bad
    have range : classify w = .rangeFault := by simp [classify, read, outside]
    rw [issueWith_ok exec (faulted_eq_false clear) read, exec_of_not_wellFormed_fault s outside, clear, range]
    rfl

end

/-! ## No command reads the words still to come -/

section
variable (s : State) (words : List CmdWord)

theorem readButtons_withProgram : readButtons (s.withProgram words) = (readButtons s).withProgram words := by
  have guard : throttled (s.withProgram words).nextNow (s.withProgram words).lastRead = throttled s.nextNow s.lastRead := rfl
  rw [readButtons_eq, readButtons_eq, guard]
  split <;> rfl

theorem writeLeds_withProgram : writeLeds (s.withProgram words) = (writeLeds s).withProgram words := by
  rw [writeLeds_eq, writeLeds_eq]; rfl

theorem advanceFrame_withProgram : (s.withProgram words).advanceFrame = s.advanceFrame.withProgram words := rfl

theorem rangeChecked_withProgram {α : Type} (operand : Option α) {f g : α → State} (h : ∀ a, g a = (f a).withProgram words) :
    (s.withProgram words).rangeChecked operand g = (s.rangeChecked operand f).withProgram words := by
  cases operand with
  | none => rfl
  | some a => exact h a

end

/-- Rule R45: a command does the same whatever words are to follow it. -/
theorem exec_withProgram {i : Instr} {s t : State} (run : exec i s = .next t) (words : List CmdWord) :
    exec i (s.withProgram words) = .next (t.withProgram words) := by
  cases i with
  | init => cases (exec_init s).symm.trans run; exact exec_init _
  | read =>
    cases (exec_read s).symm.trans run
    rw [exec_read, readButtons_withProgram]; rfl
  | write =>
    cases (exec_write s).symm.trans run
    rw [exec_write, writeLeds_withProgram, advanceFrame_withProgram]
  | rdbtn =>
    cases (exec_rdbtn s).symm.trans run
    rw [exec_rdbtn, readButtons_withProgram]
  | rdpot => cases (exec_rdpot s).symm.trans run; exact exec_rdpot _
  | wrled =>
    cases (exec_wrled s).symm.trans run
    rw [exec_wrled, writeLeds_withProgram]
  | shin =>
    cases (exec_shin s).symm.trans run
    rw [exec_shin, shiftIn_eq, shiftIn_eq]; rfl
  | shout order value =>
    cases (exec_shout s order value).symm.trans run
    rw [exec_shout, shiftOut_eq, shiftOut_eq]; rfl
  | setled row col val => cases run; exact congrArg Host.Outcome.next (rangeChecked_withProgram s words _ fun _ => rfl)
  | setrow row value => cases run; exact congrArg Host.Outcome.next (rangeChecked_withProgram s words _ fun _ => rfl)
  | getbtn row col => cases run; exact congrArg Host.Outcome.next (rangeChecked_withProgram s words _ fun _ => rfl)
  | listen slot en => cases run; exact congrArg Host.Outcome.next (rangeChecked_withProgram s words _ fun _ => rfl)
  | getcfg k => cases run; exact congrArg Host.Outcome.next (rangeChecked_withProgram s words _ fun _ => rfl)

theorem issueWith_withProgram {w : CmdWord} {s t : State} (run : issueWith exec w s = .next t) (words : List CmdWord) :
    issueWith exec w (s.withProgram words) = .next (t.withProgram words) := by
  obtain ⟨faulted, e⟩ | ⟨clear, ⟨err, read⟩, e⟩ | ⟨clear, i, read, e⟩ := issueWith_cases exec w s <;> rw [e] at run
  · cases run; exact issueWith_faulted exec w faulted
  · cases run; exact issueWith_illegal exec (s := s.withProgram words) clear read
  · exact (issueWith_ok exec (s := s.withProgram words) clear read).trans (exec_withProgram run words)

/-! ## Runs, word by word -/

theorem issueWith_answers (w : CmdWord) (s : State) : ∃ t, issueWith exec w s = .next t := by
  obtain ⟨-, e⟩ | ⟨-, -, e⟩ | ⟨-, i, -, e⟩ := issueWith_cases exec w s
  · exact ⟨_, e⟩
  · exact ⟨_, e⟩
  · obtain ⟨t, run, -⟩ := exec_next_reaches i s
    exact ⟨t, e.trans run⟩

theorem runProgram_nil (s : State) : runProgram s [] = .next (s.withProgram []) := rfl

theorem run_of_step {s t : State} (run : step s = .next t) (n : Nat) : Sys2Proof.core.run (n + 1) s = Sys2Proof.core.run n t := by
  have run' : Sys2Proof.core.step s = .next t := run
  simp only [Host.Core.run, run']

theorem runProgram_cons {w : CmdWord} {s m : State} (run : issueWith exec w s = .next m) (words : List CmdWord) :
    runProgram s (w :: words) = runProgram m words := by
  have first : step (s.withProgram (w :: words)) = .next (m.withProgram words) :=
    (step_cons (s := s.withProgram (w :: words)) rfl).trans (issueWith_withProgram run words)
  exact run_of_step first words.length

/-- A run ends with no word left, and words after it run from where it ended. -/
theorem runProgram_append {before : List CmdWord} {s t : State} (run : runProgram s before = .next t) :
    t.inbox = [] ∧ ∀ words, runProgram s (before ++ words) = runProgram t words := by
  induction before generalizing s with
  | nil => cases run; exact ⟨rfl, fun _ => rfl⟩
  | cons w before ih =>
    obtain ⟨m, first⟩ := issueWith_answers w s
    rw [runProgram_cons first] at run
    obtain ⟨ended, continues⟩ := ih run
    exact ⟨ended, fun words => (runProgram_cons first (before ++ words)).trans (continues words)⟩

/-- Rule R173: a faulted GSIO takes every word and does nothing. -/
theorem runProgram_faulted {s : State} (faulted : s.faulted = true) (words : List CmdWord) :
    runProgram s words = .next (s.withProgram []) := by
  induction words with
  | nil => rfl
  | cons w words ih => exact (runProgram_cons (issueWith_faulted exec w faulted) words).trans ih

/-- Settles O52, by induction on the words: each leaves `fault` at 0 for the next. -/
theorem legalRunsSucceed : Obligations.LegalRunsSucceed := by
  intro s words clear legal
  induction words generalizing s with
  | nil => simp [runProgram_nil, successful, State.withProgram, State.faulted, clear]
  | cons w words ih =>
    obtain ⟨legalFirst, legalRest⟩ := List.forall_mem_cons.1 legal
    obtain ⟨m, first, clear'⟩ := issueWith_legal clear legalFirst
    rw [runProgram_cons first]
    exact ih m clear' legalRest

/-- Settles O53: the bad word sets its bit where the run before it ended, and the words after it are refused. -/
theorem firstBadWordStopsRun : Obligations.FirstBadWordStopsRun := by
  intro s t before after w _ run clear bad
  obtain ⟨ended, continues⟩ := runProgram_append run
  have faulted : State.faulted { t with fault := if classify w = .illegal then 1 else 2 } = true :=
    faulted_eq_true (by dsimp only; split <;> decide)
  rw [continues, runProgram_cons (issueWith_not_legal clear bad), runProgram_faulted faulted, State.withProgram, List.map_nil, ← ended]

end Sys2Proof.Machine
end

section
/-! PROOFS for spec/70_reset_and_hazards.md. RESET while idle and in the middle of a command, RESET as the reference environment sees
it, and the number of history events of each command. -/

namespace Sys2Proof.Machine

/-! ## RESET -/

/-- Rule R200: a word whose command is cut short by RESET, from the state in which the command would complete. -/
theorem issueThenReset_of_next {run : Instr → State → Host.Outcome State Fault Refusal} {w : CmdWord} {s done : State}
    (h : issueWith run w s = .next done) (n : Nat) : issueThenReset run w n s = .next (s.resetMidCommand done n) := by
  simp only [issueThenReset, h]

section
variable {s : State} {rest : List HostInput}

theorem step_reset (next : s.inbox = .reset :: rest) :
    step s = .next (.resetWith s.shiftLevel s.oracle rest s.hist) := step_cons next

theorem step_cmdThenReset {w : CmdWord} {n : Nat} {done : State} (next : s.inbox = .cmdThenReset w n :: rest)
    (run : issueWith exec w { s with inbox := rest } = .next done) :
    step s = .next (State.resetMidCommand { s with inbox := rest } done n) :=
  (step_cons next).trans (issueThenReset_of_next run n)

end

/-- Settles O16, by the reset table itself. -/
theorem resetRestoresState : Obligations.ResetRestoresState := fun _ _ next =>
  ⟨_, step_reset next, rfl, rfl, rfl, rfl, rfl, rfl, rfl, rfl, rfl, rfl, rfl, rfl, rfl, rfl, rfl⟩

/-- Settles O17: what the whole command would record, cut after `n` events, is all that RESET leaves of it. -/
theorem resetAbandonsCommand : Obligations.ResetAbandonsCommand := by
  intro s u w n rest next run
  have issued : issueWith exec w { s with inbox := rest } = .next u := by
    rwa [step_cons rfl] at run
  obtain ⟨hs, recorded, -⟩ := issueWith_records issued
  have seen : newEvents s u = hs := recorded.newEvents_eq
  obtain ⟨hist, answers, -⟩ := recorded.resetMidCommand n
  rw [seen]
  exact ⟨_, step_cmdThenReset next issued, hist, answers, rfl, rfl⟩

/-! ## RESET in the reference environment -/

/-- Rule R201: all that RESET while idle shows to the environment is itself. -/
theorem stepEvents_reset {s : State} {rest : List HostInput} (next : s.inbox = .reset :: rest) :
    stepEvents s (.resetWith s.shiftLevel s.oracle rest s.hist) = [.reset] := by
  simp [stepEvents, newEvents, State.resetWith, next, HostInput.assertsReset]

/-- A timeline cut at its one RESET, with nothing of GSIO's before or after it. -/
theorem gsioPart_eq_reset {timeline : List WorldEvent} (shown : gsioPart timeline = [.reset]) :
    ∃ before after, timeline = before ++ .reset :: after ∧ gsioPart before = [] ∧ gsioPart after = [] := by
  obtain ⟨before, after, cut, quiet, -, quiet'⟩ := List.filter_eq_cons_iff.1 shown
  exact ⟨before, after, cut, List.filter_eq_nil_iff.2 quiet, quiet'⟩

/-- A timeline without GSIO is followed, and leaves the pins, the LED cascade and the LEDs as they are. -/
theorem Env.exists_follow_quiet {timeline : List WorldEvent} (quiet : gsioPart timeline = []) (v : Env) :
    ∃ v', v.follow timeline = some v' ∧
      (v'.shiftLevel = v.shiftLevel ∧ v'.pin = v.pin ∧ v'.lsr = v.lsr) ∧ v'.lout = v.lout := by
  have stable : Undisturbed fun m => (m.shiftLevel = v.shiftLevel ∧ m.pin = v.pin ∧ m.lsr = v.lsr) ∧ m.lout = v.lout :=
    .and
      (.of_devices fun level pin _ _ bits ⟨level', pin', bits'⟩ => ⟨level.trans level', pin.trans pin', bits.trans bits'⟩)
      (.lout fun lout => lout = v.lout)
  obtain ⟨v', followed⟩ := Env.exists_follow (hs := []) quiet (fun _ mem => nomatch mem) v
  exact ⟨v', followed, Leads.nil stable v v' timeline ⟨⟨rfl, rfl, rfl⟩, rfl⟩ quiet followed⟩

/-- Rule R201: a timeline whose one event of GSIO is a RESET leaves the LEDs alone and the pins at their reset levels. -/
theorem Env.exists_follow_reset {timeline : List WorldEvent} (shown : gsioPart timeline = [.reset]) (v : Env) :
    ∃ v', v.follow timeline = some v' ∧ v'.pin = Pins.reset v'.shiftLevel ∧ v'.lsr = v.lsr ∧ v'.lout = v.lout := by
  obtain ⟨before, after, rfl, quiet, quiet'⟩ := gsioPart_eq_reset shown
  obtain ⟨m, reached, ⟨-, -, bits⟩, leds⟩ := v.exists_follow_quiet quiet
  obtain ⟨v', followed, ⟨level, pin, bits'⟩, leds'⟩ := m.gsioReset.exists_follow_quiet quiet'
  refine ⟨v', ?_, ?_, bits'.trans bits, leds'.trans leds⟩
  · rw [Env.follow_append, reached]
    exact followed
  · rw [pin, level, Env.gsioReset_pin, Env.gsioReset_shiftLevel]

/-- Rule R71: with the latch deasserted the button cascade presents button (4, 0). -/
theorem Env.btnBit_of_parallel {v : Env} (parallel : v.pin.btnLatch = !v.shiftLevel) : v.btnBit = v.physBtn[4][0] := by
  have deasserted : v.pin.btnLatch ≠ v.shiftLevel := by simp [parallel]
  exact if_neg deasserted

/-- Settles O58: RESET is all the environment sees, and the reset levels are parallel capture and channel 0. -/
theorem resetLeavesCascades : Obligations.ResetLeavesCascades := by
  intro v s rest next
  refine ⟨_, step_reset next, fun timeline shown => ?_⟩
  rw [stepEvents_reset next] at shown
  obtain ⟨v', followed, pin, bits, leds⟩ := v.exists_follow_reset shown
  have parallel : v'.pin.btnLatch = !v'.shiftLevel := by
    rw [pin]; rfl
  have channel : v'.pin.selected = 0 := by
    rw [pin]; rfl
  exact ⟨v', followed, bits, leds, parallel, Env.btnBit_of_parallel parallel, channel⟩

/-! ## How many events a stretch of history has -/

/-- Besides its event words a stretch of history has `count` events, whose delays add up to `us` microseconds (rule R220). -/
structure Tally (hs : List HistoryEvent) (count us : Nat) : Prop where
  count : hs.length = (deliveredWords hs).length + count
  delays : delayTotal hs = us

theorem delayTotal_append (hs hs' : List HistoryEvent) : delayTotal (hs ++ hs') = delayTotal hs + delayTotal hs' := by
  simp [delayTotal]

namespace Tally

section
variable {hs hs' : List HistoryEvent} {n n' us us' : Nat}

theorem nil : Tally [] 0 0 := ⟨rfl, rfl⟩

theorem append (h : Tally hs n us) (h' : Tally hs' n' us') : Tally (hs ++ hs') (n + n') (us + us') where
  count := by
    rw [deliveredWords_append, List.length_append, List.length_append, h.count, h'.count]
    omega
  delays := by rw [delayTotal_append, h.delays, h'.delays]

theorem of_onlyWords (words : OnlyWords hs) : Tally hs 0 0 := by
  induction hs with
  | nil => exact nil
  | cons h hs ih =>
    obtain ⟨word, rfl⟩ := words h List.mem_cons_self
    exact append (hs := [.e word]) ⟨rfl, rfl⟩ (ih fun h' mem => words h' (List.mem_cons_of_mem _ mem))

/-- A loop whose every turn has as many events and delays. -/
theorem flatMap {α : Type} {f : α → List HistoryEvent} (l : List α) (turn : ∀ a, Tally (f a) n us) :
    Tally (l.flatMap f) (l.length * n) (l.length * us) := by
  induction l with
  | nil => simpa using nil
  | cons a l ih =>
    rw [List.flatMap_cons, List.length_cons, Nat.succ_mul, Nat.succ_mul, Nat.add_comm _ n, Nat.add_comm _ us]
    exact append (turn a) ih

/-- What a command appends is what it has been shown to append. -/
theorem of_hist {s t : State} (h : Tally hs n us) (grown : t.hist = s.hist ++ hs) : Tally (newEvents s t) n us := by
  have appended : newEvents s t = hs := by simp [newEvents, grown]
  rwa [appended]

end

/-! ### The procedures -/

/-- Rule R100: eight clock periods of four events, one of them a wait of 2 microseconds. -/
theorem shiftIn (v : Byte) : Tally (shiftInEvents v) 32 16 := flatMap (n := 4) (us := 2) bitOrder fun _ => ⟨rfl, rfl⟩

/-- Rule R103: eight bits of three writes. -/
theorem shiftOut (order : BitOrder) (value : Byte) : Tally (shiftOutEvents order value) 24 0 :=
  flatMap (n := 3) (us := 0) bitOrder fun _ => ⟨rfl, rfl⟩

/-- Rule R113: the clock sample, two latch writes and five rows, whatever the event words among them. -/
theorem scannedState (s : State) (notify : Bool) : Tally (newEvents s (scannedState s notify)) 163 80 := by
  have row (r : Row) : Tally (shiftInEvents (sampledRow s.oracle r) ++ rowWords s (s.oracle.nowAt 0) notify r) 32 16 :=
    (shiftIn _).append (of_onlyWords (rowWords_onlyWords s _ notify r))
  have opening : Tally [.t (s.oracle.nowAt 0), .w .btnLatch s.shiftLevel] 2 0 := ⟨rfl, rfl⟩
  have closing : Tally [.w .btnLatch (!s.shiftLevel)] 1 0 := ⟨rfl, rfl⟩
  have scan := (opening.append (flatMap buttonRowOrder row)).append closing
  exact scan.of_hist rfl

/-- Rule R146: six channels of three select writes and a sample, whatever the event words among them. -/
theorem potPassState (s : State) : Tally (newEvents s (potPassState s)) 24 0 := by
  have channel (ch : Chan) :
      Tally (selectEvents ch ++ .a (s.oracle.ainAt ch.val) :: potEvents s ch (s.oracle.ainAt ch.val)) 4 0 := by
    have sampled : Tally (selectEvents ch ++ [.a (s.oracle.ainAt ch.val)]) 4 0 := ⟨rfl, rfl⟩
    rw [List.append_cons]
    exact sampled.append (of_onlyWords (potEvents_onlyWords s ch _))
  exact (flatMap chanOrder channel).of_hist rfl

/-- Rule R131: two latch writes and five bytes. -/
theorem ledWrite (s : State) : Tally (ledWriteEvents s) 122 0 := by
  have low : Tally [.w .ledLatch false] 1 0 := ⟨rfl, rfl⟩
  have high : Tally [.w .ledLatch true] 1 0 := ⟨rfl, rfl⟩
  exact (low.append (flatMap ledRowOrder fun r => shiftOut .lsbFirst (shownByte s r))).append high

theorem returnResult (s : State) (v : Byte) : Tally (newEvents s (s.returnResult v)) 1 0 := of_hist (hs := [.res v]) ⟨rfl, rfl⟩ rfl

/-- A command that writes registers alone appends nothing. -/
theorem of_hist_eq {s t : State} (same : t.hist = s.hist) : Tally (newEvents s t) 0 0 :=
  nil.of_hist (same.trans (List.append_nil _).symm)

end Tally

/-! ## How many events each command has -/

/-- Rule R220's table: how many history events a command with legal operands appends besides the event words. -/
def eventCount (s : State) : Instr → Nat
  | .shin => 33
  | .shout _ _ => 24
  | .rdbtn => if (s.oracle.nowAt 0 - s.lastRead).toNat < 10 then 1 else 163
  | .init => 163
  | .rdpot => 24
  | .read => if (s.oracle.nowAt 0 - s.lastRead).toNat < 10 then 25 else 187
  | .wrled => 122
  | .write => 122
  | .setled _ _ _ => 0
  | .setrow _ _ => 0
  | .listen _ _ => 0
  | .getbtn _ _ => 1
  | .getcfg _ => 1

/-- The microseconds of waiting a command asks for: two for each bit shifted in (rules R100, R220). -/
def delaySum (s : State) : Instr → Nat
  | .shin => 16
  | .init => 80
  | .rdbtn => if (s.oracle.nowAt 0 - s.lastRead).toNat < 10 then 0 else 80
  | .read => if (s.oracle.nowAt 0 - s.lastRead).toNat < 10 then 0 else 80
  | _ => 0

theorem delaySum_of_scans {s : State} {i : Instr} (h : s.Scans i) : delaySum s i = 80 := by
  obtain rfl | ⟨rfl | rfl, due⟩ := h
  · rfl
  · exact if_neg (Nat.not_lt.2 due)
  · exact if_neg (Nat.not_lt.2 due)

/-- Rule R112: a throttled read is its clock sample, an accepted one a whole scan. -/
theorem tally_readButtons (s : State) : Tally (newEvents s (readButtons s)) (eventCount s .rdbtn) (delaySum s .rdbtn) := by
  by_cases early : (s.oracle.nowAt 0 - s.lastRead).toNat < 10
  · have guarded : throttled s.nextNow s.lastRead = true := decide_eq_true early
    have sample : Tally [.t s.nextNow] 1 0 := ⟨rfl, rfl⟩
    simp only [eventCount, delaySum, if_pos early, readButtons_eq, if_pos guarded]
    exact sample.of_hist rfl
  · simp only [eventCount, delaySum, if_neg early, readButtons_of_due (Nat.not_lt.1 early)]
    exact Tally.scannedState s true

/-- Rule R161: READ appends what RDBTN does, and then a pot pass. -/
theorem tally_read (s : State) :
    Tally (newEvents s (potPassState (readButtons s))) (eventCount s .read) (delaySum s .read) := by
  have count : eventCount s .read = eventCount s .rdbtn + 24 := by
    simp only [eventCount]
    split <;> rfl
  rw [newEvents_read, count]
  exact (tally_readButtons s).append (Tally.potPassState (readButtons s))

/-- Rule R220: every command with legal operands appends its row of the table. -/
theorem exec_tally {i : Instr} {s t : State} (legal : i.wellFormed = true) (run : exec i s = .next t) :
    Tally (newEvents s t) (eventCount s i) (delaySum s i) := by
  have of_answer {u : State} {n us : Nat} (answered : exec i s = .next u) (h : Tally (newEvents s u) n us) :
      Tally (newEvents s t) n us := by
    cases answered.symm.trans run
    exact h
  cases i with
  | init => exact of_answer (exec_init s) (.scannedState s false)
  | read => exact of_answer (exec_read s) (tally_read s)
  | write =>
    obtain ⟨_, answered, events⟩ := exec_of_ledWrite s (.inr rfl)
    exact of_answer answered (events ▸ Tally.ledWrite s)
  | rdbtn => exact of_answer (exec_rdbtn s) (tally_readButtons s)
  | rdpot => exact of_answer (exec_rdpot s) (.potPassState s)
  | wrled =>
    obtain ⟨_, answered, events⟩ := exec_of_ledWrite s (.inl rfl)
    exact of_answer answered (events ▸ Tally.ledWrite s)
  | shin =>
    have returned : Tally [.res (nextByte s.oracle)] 1 0 := ⟨rfl, rfl⟩
    exact of_answer (exec_shin s) (((Tally.shiftIn (nextByte s.oracle)).append returned).of_hist (by simp))
  | shout order value => exact of_answer (exec_shout s order value) ((Tally.shiftOut order value).of_hist (by simp))
  | setled row col val =>
    obtain ⟨r, answered⟩ := exec_setled s legal col val
    exact of_answer answered (.of_hist_eq rfl)
  | setrow row value =>
    obtain ⟨r, answered⟩ := exec_setrow s legal value
    exact of_answer answered (.of_hist_eq rfl)
  | getbtn row col =>
    obtain ⟨v, answered⟩ := exec_getbtn s legal col
    exact of_answer answered (.returnResult s v)
  | listen slot en =>
    obtain ⟨j, answered⟩ := exec_listen s legal en
    exact of_answer answered (.of_hist_eq rfl)
  | getcfg k =>
    obtain ⟨v, answered⟩ := exec_getcfg s legal
    exact of_answer answered (.returnResult s v)

/-- Settles O41: the tally of the command's history is the table's row, and an accepted scan is the row of 80 microseconds. -/
theorem historyEventCounts : Obligations.HistoryEventCounts := by
  intro i s t legal run
  have tally := exec_tally legal run
  exact ⟨tally.count, fun scans => tally.delays.trans (delaySum_of_scans scans)⟩

end Sys2Proof.Machine
end

section
/-! PROOFS for spec/95_test_vectors.md. The sample words of its decode table. -/

namespace Sys2Proof.Machine

/-- Settles O6: each word is the one the encoder writes for its command, and the decoder reads a command from its own word. -/
theorem sampleWordsDecode : Obligations.SampleWordsDecode := by
  simp only [Obligations.SampleWordsDecode, decode_eq_ok_iff]
  exact ⟨rfl, rfl, rfl, rfl, rfl, rfl, rfl⟩

end Sys2Proof.Machine
end
